-- ==== Sys2Proof/Word.lean ====
section
/-! DEFINITION. The word types of the CORE's ports and the two number types of its front end.

Widths are the spec's: CSR registers and FRAME_OUT words are 32 bits (10_state R21, 30_encoding R94), a SAMPLE_IN beat is
64 bits (R81), payload bytes and nibbles 8 and 4 bits (R54, R55), the PN9 register 9 bits (R56), the CRC 16 bits (R57). -/

namespace Sys2Proof

/-- One byte. -/
abbrev Byte := BitVec 8

/-- One nibble (10_state R54). -/
abbrev Nib := BitVec 4

/-- One CSR register, or one word on FRAME_OUT. -/
abbrev Word32 := BitVec 32

/-- One beat on SAMPLE_IN (30_encoding R81). -/
abbrev Beat := BitVec 64

/-- A complex number with exact rational parts: what a sample becomes after 20_memory R67. -/
structure Cx where
  re : Rat
  im : Rat
  deriving DecidableEq, Repr, Inhabited

/-- A real number of type `R`, or plus infinity: the range of `snr_db` and `p2s_db` (41_frame_sync R125, 42_symbol_demod R152). -/
inductive Ext (R : Type) where
  | fin (r : R)
  | posInf
  deriving DecidableEq, Repr, Inhabited

end Sys2Proof
end

