-- ==== Sys2Proof/Config.lean ====
section
/-! DEFINITION. What an implementation fixes, and the free values: constants without a body, so that nothing in Lean can say
what they are and a claim is true whatever they are. -/

namespace Sys2Proof

/-- `NUM`, the arithmetic of the numeric front end (00_scope R16): "a record of functions {cadd, cmul, cexp, abs2, arg, log10,
fft}", over a type `R` of reals and a type `C` of complex numbers. Angles are counted in turns: `cexp t` stands for
`exp(j*2*pi*t)` and `arg z` for `arg(z)/(2*pi)` (log 7). `fft N y k` is bin `k` of the `N`-point transform of `y` (42 R143). -/
structure Num (R C : Type) where
  cadd  : C → C → C
  cmul  : C → C → C
  cexp  : R → C
  abs2  : C → R
  arg   : C → R
  log10 : R → R
  fft   : Nat → List C → Nat → C
  deriving Inhabited

/-- `NUM` together with what the rules do with its results besides: hold a rational, add, multiply, divide and compare reals,
conjugate a complex number and compare it with 0. These are exact in every instance (log 7). -/
structure Arith (R C : Type) extends Num R C where
  ofRat  : Rat → R
  ofCx   : Cx → C
  radd   : R → R → R
  rmul   : R → R → R
  rdiv   : R → R → R
  rlt    : R → R → Bool
  conj   : C → C
  isZero : C → Bool

/-- The instance's `NUM` (00_scope R11, R16; 92 D6: OPEN). DESIGN CHOICE (log 7): its values are rationals, as those of every
finite implementation are. -/
opaque Config.num : Num Rat Cx

/-- `FRAME_FIFO_DEPTH` less 1: the depth is an integer `>= 1` (00_scope R11; OPEN). -/
opaque Config.frameFifoDepthPred : Nat

/-- `SAMPLE_STORE_DEPTH` (00_scope R11; OPEN): `none` is an unbounded store. -/
opaque Config.sampleStoreDepth : Option Nat

/-- What a read of the sample store below `RETIRE` gives: 20_memory R63 does not define it, an implementation "may drop" the
entry (R62). DESIGN CHOICE: a free value for each index (log 13). -/
opaque Config.retiredSample : Nat → Cx

/-- The value of an operand that a register list does not hold (the spec's lists always hold what their readers need: an
operation run out of its phase order can miss one). DESIGN CHOICE: a free value for each position (log 14). -/
opaque Config.absent : Nat → Nat

/-- A real number that a list of the numeric front end does not hold, by its position (such as a power of an index outside the
list). DESIGN CHOICE: a free value for each position (log 32). -/
opaque Config.absentReal : Nat → Rat

/-- A complex number that a list of the numeric front end does not hold, by its position (such as a bin of a short spectrum).
DESIGN CHOICE: a free value for each position (log 32). -/
opaque Config.absentCx : Nat → Cx

/-- The index of the largest value of an empty list: `min` of an empty set has no value (00_scope R17, 42 R146). DESIGN CHOICE: a
free value (log 32). -/
opaque Config.noPeak : Nat

/-- The result of a Hamming code of an index outside 1 to 4, which "cannot reach" the decoder (43 R171). DESIGN CHOICE: a
free value of the codeword and the index (log 27). -/
opaque Config.hamNoCode : Nat → Nat → Nat

end Sys2Proof
end

