-- ==== Sys2Proof/Syntax.lean ====
section
/-! DEFINITION. One constructor for each row of spec/opcode_table.json, in the table's order and with its formats: TXN (host
transactions, 30_encoding R95), CMD (values written to CTRL, R96), CSR (register numbers, 10_state R45), PHASE (R97), FN
(pure functions and shared actions, R99) and HAM (the decoders `cr` selects, 43 R171). -/

namespace Sys2Proof

/-- One access to a control/status register (10_state R21). -/
inductive CsrAccess where
  | rd
  | wr (v : Word32)
  deriving DecidableEq, Repr

inductive Instr where
  -- TXN
  | csrW (n : Byte) (v : Word32)
  | csrR (n : Byte)
  | push (b : Beat)
  | pushsym (b : Beat)
  | outPop
  -- CMD: `ign` is the ignored part `v[31:4]` of the value written to CTRL
  | nop (ign : BitVec 28)
  | start (ign : BitVec 28)
  | eos (ign : BitVec 28)
  | pop (ign : BitVec 28)
  | cmdReserved4 (ign : BitVec 28)
  | cmdReserved5 (ign : BitVec 28)
  | cmdReserved6 (ign : BitVec 28)
  | cmdReserved7 (ign : BitVec 28)
  | cmdReserved8 (ign : BitVec 28)
  | cmdReserved9 (ign : BitVec 28)
  | cmdReserved10 (ign : BitVec 28)
  | cmdReserved11 (ign : BitVec 28)
  | cmdReserved12 (ign : BitVec 28)
  | cmdReserved13 (ign : BitVec 28)
  | cmdReserved14 (ign : BitVec 28)
  | reset (ign : BitVec 28)
  -- CSR
  | csrCtrl (a : CsrAccess)
  | csrStatus (a : CsrAccess)
  | csrErr (a : CsrAccess)
  | csrLastErr (a : CsrAccess)
  | csrSf (a : CsrAccess)
  | csrBw (a : CsrAccess)
  | csrFs (a : CsrAccess)
  | csrCr (a : CsrAccess)
  | csrSyncWord (a : CsrAccess)
  | csrMode (a : CsrAccess)
  | csrPayloadLen (a : CsrAccess)
  | csrLdroMode (a : CsrAccess)
  | csrNPreamble (a : CsrAccess)
  | csrSearchWin (a : CsrAccess)
  | csrCfoMax (a : CsrAccess)
  | csrFrameLimit (a : CsrAccess)
  | csrAttemptLimit (a : CsrAccess)
  | csrSyncCfoInt (a : CsrAccess)
  | csrSyncCfoFrac (a : CsrAccess)
  | csrSyncSto (a : CsrAccess)
  | csrSyncSnrDb (a : CsrAccess)
  | csrHdrStartLo (a : CsrAccess)
  | csrHdrStartHi (a : CsrAccess)
  | csrHdr (a : CsrAccess)
  | csrPosLo (a : CsrAccess)
  | csrPosHi (a : CsrAccess)
  | csrAvailLo (a : CsrAccess)
  | csrAvailHi (a : CsrAccess)
  | csrFrameCount (a : CsrAccess)
  | csrNotfoundCount (a : CsrAccess)
  | csrAbortCount (a : CsrAccess)
  | csrFrameLevel (a : CsrAccess)
  | csrUnmapped (n : Byte) (a : CsrAccess)
  -- PHASE
  | idle
  | preambleSearch
  | syncMatch
  | demodSymbolHdr
  | headerDecode
  | demodSymbolPay
  | payloadBlockDecode
  | dewhiten
  | crcCheck
  | emitFrame
  | done
  | injectSearch
  | coreStep
  | eosAction
  -- FN
  | chirpUp
  | chirpDown
  | chirpRefOs
  | f32ToNum
  | circdist
  | argmaxPeak
  | stable
  | fracCfo
  | snrEst
  | coarseAlign
  | fineTiming
  | syncSymbols
  | findDownchirp
  | syncWordMatch
  | cfoInt
  | cfoRangeCheck
  | hdrStartSto
  | syncFail
  | dechirpFft
  | decimate
  | dft
  | cfoFracCorrect
  | cfoIntCorrect
  | peak
  | bin2sym
  | grayEnc
  | grayDec
  | symReduce
  | symval
  | diagnostics
  | interBin
  | deinterleave
  | rowToCodeword
  | interleave
  | hamEnc
  | hamDec
  | nib2byte
  | hdrParse
  | hdrChk
  | nsym
  | pn9Step
  | pn9Byte
  | crc16
  | loraCrc
  | crcRx
  | configValid
  | ldroAuto
  | lock
  | payloadSetup
  | headerAbort
  | nextSearch
  | raise
  | frameWords
  -- HAM
  | hamDec5
  | hamDec6
  | hamDec7
  | hamDec8
  deriving DecidableEq, Repr

end Sys2Proof
end

