-- ==== Sys2Proof/WellFormed.lean ====
section
/-! DEFINITION. Which terms of `Instr` are instructions of the spec. One check: the row `CSR_UNMAPPED` stands for the register
numbers above `0x1F` only (10_state R21); every other operand is legal at every value of its width. -/

namespace Sys2Proof

/-- The register number of a `CSR_UNMAPPED` access is one that no register has. -/
def Instr.wellFormed : Instr → Bool
  | .csrUnmapped n _ => 0x20 ≤ n.toNat
  | _ => true

end Sys2Proof
end

