-- ==== Sys2Proof/Decode.lean ====
section
/-! DEFINITION. Decoding and encoding. The spec mandates no wire format for transactions and rows (30_encoding R95, R99; 20_memory
R71), so the model frames each as a PACKET of bytes: a kind byte, then the operands the spec's encoding names, least
significant byte first (log 1). Inside a packet every code is the spec's: the register number (10_state R45), the word
written to CTRL with its code in bits 3:0 (30_encoding R96), the phase code (R97), the table's function key (R99), `cr` (R171). -/

namespace Sys2Proof

/-- One packet: what stands for one transaction or row in the host's list (log 1). -/
abbrev Packet := List Byte

/-- What the decoder says of a packet. -/
inductive Decoded where
  /-- the packet is this instruction -/
  | ok (i : Instr)
  /-- the packet does not have the form of any kind of packet -/
  | malformed
  /-- the packet is well formed and its code is one the opcode table has no row for (PHASE 11 to 15, FN above 0x34, HAM 0, 5, 6, 7) -/
  | noRow (kind code : Byte)
  deriving DecidableEq, Repr

/-- The instruction, if there is one. -/
def Decoded.toOption : Decoded → Option Instr
  | .ok i => some i
  | _ => none

/-- Four bytes, least significant first, as a 32-bit word. -/
def ofLe32 (b0 b1 b2 b3 : Byte) : Word32 := b3 ++ b2 ++ b1 ++ b0

/-- Eight bytes, least significant first, as a beat: `B[8k+7:8k] = b_k` (20_memory R66). -/
def ofLe64 (b0 b1 b2 b3 b4 b5 b6 b7 : Byte) : Beat := b7 ++ b6 ++ b5 ++ b4 ++ b3 ++ b2 ++ b1 ++ b0

/-- A 32-bit word as four bytes, least significant first. -/
def le32 (v : Word32) : List Byte :=
  [v.extractLsb' 0 8, v.extractLsb' 8 8, v.extractLsb' 16 8, v.extractLsb' 24 8]

/-- A beat as eight bytes, least significant first (20_memory R66). -/
def le64 (b : Beat) : List Byte :=
  [b.extractLsb' 0 8, b.extractLsb' 8 8, b.extractLsb' 16 8, b.extractLsb' 24 8,
   b.extractLsb' 32 8, b.extractLsb' 40 8, b.extractLsb' 48 8, b.extractLsb' 56 8]

/-- The command row of a word written to CTRL: the code is `CTRL[3:0]`, bits `[31:4]` are ignored (30_encoding R96). -/
def decodeCommand (v : Word32) : Instr :=
  let ign := v.extractLsb' 4 28
  match (v.extractLsb' 0 4).toNat with
  | 0 => .nop ign
  | 1 => .start ign
  | 2 => .eos ign
  | 3 => .pop ign
  | 4 => .cmdReserved4 ign
  | 5 => .cmdReserved5 ign
  | 6 => .cmdReserved6 ign
  | 7 => .cmdReserved7 ign
  | 8 => .cmdReserved8 ign
  | 9 => .cmdReserved9 ign
  | 10 => .cmdReserved10 ign
  | 11 => .cmdReserved11 ign
  | 12 => .cmdReserved12 ign
  | 13 => .cmdReserved13 ign
  | 14 => .cmdReserved14 ign
  | _ => .reset ign

/-- The register row of a CSR number (10_state R45); numbers above `0x1F` are `CSR_UNMAPPED` (R21). -/
def decodeCsr (n : Byte) (a : CsrAccess) : Instr :=
  match n.toNat with
  | 0 => .csrCtrl a
  | 1 => .csrStatus a
  | 2 => .csrErr a
  | 3 => .csrLastErr a
  | 4 => .csrSf a
  | 5 => .csrBw a
  | 6 => .csrFs a
  | 7 => .csrCr a
  | 8 => .csrSyncWord a
  | 9 => .csrMode a
  | 10 => .csrPayloadLen a
  | 11 => .csrLdroMode a
  | 12 => .csrNPreamble a
  | 13 => .csrSearchWin a
  | 14 => .csrCfoMax a
  | 15 => .csrFrameLimit a
  | 16 => .csrAttemptLimit a
  | 17 => .csrSyncCfoInt a
  | 18 => .csrSyncCfoFrac a
  | 19 => .csrSyncSto a
  | 20 => .csrSyncSnrDb a
  | 21 => .csrHdrStartLo a
  | 22 => .csrHdrStartHi a
  | 23 => .csrHdr a
  | 24 => .csrPosLo a
  | 25 => .csrPosHi a
  | 26 => .csrAvailLo a
  | 27 => .csrAvailHi a
  | 28 => .csrFrameCount a
  | 29 => .csrNotfoundCount a
  | 30 => .csrAbortCount a
  | 31 => .csrFrameLevel a
  | _ => .csrUnmapped n a

/-- The operation of a phase code (30_encoding R97): codes 0 to 10. -/
def decodePhase (c : Byte) : Decoded :=
  match c.toNat with
  | 0 => .ok .idle
  | 1 => .ok .preambleSearch
  | 2 => .ok .syncMatch
  | 3 => .ok .demodSymbolHdr
  | 4 => .ok .headerDecode
  | 5 => .ok .demodSymbolPay
  | 6 => .ok .payloadBlockDecode
  | 7 => .ok .dewhiten
  | 8 => .ok .crcCheck
  | 9 => .ok .emitFrame
  | 10 => .ok .done
  | _ => .noRow 7 c

/-- The function of a table key (30_encoding R99): keys 0 to 0x34. -/
def decodeFn (c : Byte) : Decoded :=
  match c.toNat with
  | 0 => .ok .chirpUp
  | 1 => .ok .chirpDown
  | 2 => .ok .chirpRefOs
  | 3 => .ok .f32ToNum
  | 4 => .ok .circdist
  | 5 => .ok .argmaxPeak
  | 6 => .ok .stable
  | 7 => .ok .fracCfo
  | 8 => .ok .snrEst
  | 9 => .ok .coarseAlign
  | 10 => .ok .fineTiming
  | 11 => .ok .syncSymbols
  | 12 => .ok .findDownchirp
  | 13 => .ok .syncWordMatch
  | 14 => .ok .cfoInt
  | 15 => .ok .cfoRangeCheck
  | 16 => .ok .hdrStartSto
  | 17 => .ok .syncFail
  | 18 => .ok .dechirpFft
  | 19 => .ok .decimate
  | 20 => .ok .dft
  | 21 => .ok .cfoFracCorrect
  | 22 => .ok .cfoIntCorrect
  | 23 => .ok .peak
  | 24 => .ok .bin2sym
  | 25 => .ok .grayEnc
  | 26 => .ok .grayDec
  | 27 => .ok .symReduce
  | 28 => .ok .symval
  | 29 => .ok .diagnostics
  | 30 => .ok .interBin
  | 31 => .ok .deinterleave
  | 32 => .ok .rowToCodeword
  | 33 => .ok .interleave
  | 34 => .ok .hamEnc
  | 35 => .ok .hamDec
  | 36 => .ok .nib2byte
  | 37 => .ok .hdrParse
  | 38 => .ok .hdrChk
  | 39 => .ok .nsym
  | 40 => .ok .pn9Step
  | 41 => .ok .pn9Byte
  | 42 => .ok .crc16
  | 43 => .ok .loraCrc
  | 44 => .ok .crcRx
  | 45 => .ok .configValid
  | 46 => .ok .ldroAuto
  | 47 => .ok .lock
  | 48 => .ok .payloadSetup
  | 49 => .ok .headerAbort
  | 50 => .ok .nextSearch
  | 51 => .ok .raise
  | 52 => .ok .frameWords
  | _ => .noRow 11 c

/-- The Hamming decoder that `cr` selects (43_deinterleave_hamming R171). -/
def decodeHam (c : Byte) : Decoded :=
  match c.toNat with
  | 1 => .ok .hamDec5
  | 2 => .ok .hamDec6
  | 3 => .ok .hamDec7
  | 4 => .ok .hamDec8
  | _ => .noRow 12 c

/-- The decoder, total on any bytes. Kinds: 0 CSR.W, 1 CSR.R, 2 PUSH, 3 PUSHSYM, 4 OUT.POP, 5 a word written to CTRL, 6 an access
to a numbered register (0 read, 1 write), 7 a phase code, 8 INJECT_SEARCH, 9 CORE_STEP, 10 EOS_ACTION, 11 a function key,
12 a Hamming code index (log 1). -/
def decode (p : Packet) : Decoded :=
  match p with
  | [] => .malformed
  | k :: ops =>
    match k.toNat, ops with
    | 0, [n, v0, v1, v2, v3] => .ok (.csrW n (ofLe32 v0 v1 v2 v3))
    | 1, [n] => .ok (.csrR n)
    | 2, [b0, b1, b2, b3, b4, b5, b6, b7] => .ok (.push (ofLe64 b0 b1 b2 b3 b4 b5 b6 b7))
    | 3, [b0, b1, b2, b3, b4, b5, b6, b7] => .ok (.pushsym (ofLe64 b0 b1 b2 b3 b4 b5 b6 b7))
    | 4, [] => .ok .outPop
    | 5, [v0, v1, v2, v3] => .ok (decodeCommand (ofLe32 v0 v1 v2 v3))
    | 6, [n, a] => if a = 0 then .ok (decodeCsr n .rd) else .malformed
    | 6, [n, a, v0, v1, v2, v3] => if a = 1 then .ok (decodeCsr n (.wr (ofLe32 v0 v1 v2 v3))) else .malformed
    | 7, [c] => decodePhase c
    | 8, [] => .ok .injectSearch
    | 9, [] => .ok .coreStep
    | 10, [] => .ok .eosAction
    | 11, [c] => decodeFn c
    | 12, [c] => decodeHam c
    | _, _ => .malformed

/-- A word written to CTRL with command code `c`. -/
def encodeCommand (c : BitVec 4) (ign : BitVec 28) : Packet := 5 :: le32 (ign ++ c)

/-- An access to register number `n`. -/
def encodeCsr (n : Byte) : CsrAccess → Packet
  | .rd => [6, n, 0]
  | .wr v => 6 :: n :: 1 :: le32 v

/-- The packet of an instruction, from the same tables as `decode`. -/
def encode : Instr → Packet
  | .csrW n v => 0 :: n :: le32 v
  | .csrR n => [1, n]
  | .push b => 2 :: le64 b
  | .pushsym b => 3 :: le64 b
  | .outPop => [4]
  | .nop ign => encodeCommand 0 ign
  | .start ign => encodeCommand 1 ign
  | .eos ign => encodeCommand 2 ign
  | .pop ign => encodeCommand 3 ign
  | .cmdReserved4 ign => encodeCommand 4 ign
  | .cmdReserved5 ign => encodeCommand 5 ign
  | .cmdReserved6 ign => encodeCommand 6 ign
  | .cmdReserved7 ign => encodeCommand 7 ign
  | .cmdReserved8 ign => encodeCommand 8 ign
  | .cmdReserved9 ign => encodeCommand 9 ign
  | .cmdReserved10 ign => encodeCommand 10 ign
  | .cmdReserved11 ign => encodeCommand 11 ign
  | .cmdReserved12 ign => encodeCommand 12 ign
  | .cmdReserved13 ign => encodeCommand 13 ign
  | .cmdReserved14 ign => encodeCommand 14 ign
  | .reset ign => encodeCommand 15 ign
  | .csrCtrl a => encodeCsr 0x00 a
  | .csrStatus a => encodeCsr 0x01 a
  | .csrErr a => encodeCsr 0x02 a
  | .csrLastErr a => encodeCsr 0x03 a
  | .csrSf a => encodeCsr 0x04 a
  | .csrBw a => encodeCsr 0x05 a
  | .csrFs a => encodeCsr 0x06 a
  | .csrCr a => encodeCsr 0x07 a
  | .csrSyncWord a => encodeCsr 0x08 a
  | .csrMode a => encodeCsr 0x09 a
  | .csrPayloadLen a => encodeCsr 0x0A a
  | .csrLdroMode a => encodeCsr 0x0B a
  | .csrNPreamble a => encodeCsr 0x0C a
  | .csrSearchWin a => encodeCsr 0x0D a
  | .csrCfoMax a => encodeCsr 0x0E a
  | .csrFrameLimit a => encodeCsr 0x0F a
  | .csrAttemptLimit a => encodeCsr 0x10 a
  | .csrSyncCfoInt a => encodeCsr 0x11 a
  | .csrSyncCfoFrac a => encodeCsr 0x12 a
  | .csrSyncSto a => encodeCsr 0x13 a
  | .csrSyncSnrDb a => encodeCsr 0x14 a
  | .csrHdrStartLo a => encodeCsr 0x15 a
  | .csrHdrStartHi a => encodeCsr 0x16 a
  | .csrHdr a => encodeCsr 0x17 a
  | .csrPosLo a => encodeCsr 0x18 a
  | .csrPosHi a => encodeCsr 0x19 a
  | .csrAvailLo a => encodeCsr 0x1A a
  | .csrAvailHi a => encodeCsr 0x1B a
  | .csrFrameCount a => encodeCsr 0x1C a
  | .csrNotfoundCount a => encodeCsr 0x1D a
  | .csrAbortCount a => encodeCsr 0x1E a
  | .csrFrameLevel a => encodeCsr 0x1F a
  | .csrUnmapped n a => encodeCsr n a
  | .idle => [7, 0]
  | .preambleSearch => [7, 1]
  | .syncMatch => [7, 2]
  | .demodSymbolHdr => [7, 3]
  | .headerDecode => [7, 4]
  | .demodSymbolPay => [7, 5]
  | .payloadBlockDecode => [7, 6]
  | .dewhiten => [7, 7]
  | .crcCheck => [7, 8]
  | .emitFrame => [7, 9]
  | .done => [7, 10]
  | .injectSearch => [8]
  | .coreStep => [9]
  | .eosAction => [10]
  | .chirpUp => [11, 0x00]
  | .chirpDown => [11, 0x01]
  | .chirpRefOs => [11, 0x02]
  | .f32ToNum => [11, 0x03]
  | .circdist => [11, 0x04]
  | .argmaxPeak => [11, 0x05]
  | .stable => [11, 0x06]
  | .fracCfo => [11, 0x07]
  | .snrEst => [11, 0x08]
  | .coarseAlign => [11, 0x09]
  | .fineTiming => [11, 0x0A]
  | .syncSymbols => [11, 0x0B]
  | .findDownchirp => [11, 0x0C]
  | .syncWordMatch => [11, 0x0D]
  | .cfoInt => [11, 0x0E]
  | .cfoRangeCheck => [11, 0x0F]
  | .hdrStartSto => [11, 0x10]
  | .syncFail => [11, 0x11]
  | .dechirpFft => [11, 0x12]
  | .decimate => [11, 0x13]
  | .dft => [11, 0x14]
  | .cfoFracCorrect => [11, 0x15]
  | .cfoIntCorrect => [11, 0x16]
  | .peak => [11, 0x17]
  | .bin2sym => [11, 0x18]
  | .grayEnc => [11, 0x19]
  | .grayDec => [11, 0x1A]
  | .symReduce => [11, 0x1B]
  | .symval => [11, 0x1C]
  | .diagnostics => [11, 0x1D]
  | .interBin => [11, 0x1E]
  | .deinterleave => [11, 0x1F]
  | .rowToCodeword => [11, 0x20]
  | .interleave => [11, 0x21]
  | .hamEnc => [11, 0x22]
  | .hamDec => [11, 0x23]
  | .nib2byte => [11, 0x24]
  | .hdrParse => [11, 0x25]
  | .hdrChk => [11, 0x26]
  | .nsym => [11, 0x27]
  | .pn9Step => [11, 0x28]
  | .pn9Byte => [11, 0x29]
  | .crc16 => [11, 0x2A]
  | .loraCrc => [11, 0x2B]
  | .crcRx => [11, 0x2C]
  | .configValid => [11, 0x2D]
  | .ldroAuto => [11, 0x2E]
  | .lock => [11, 0x2F]
  | .payloadSetup => [11, 0x30]
  | .headerAbort => [11, 0x31]
  | .nextSearch => [11, 0x32]
  | .raise => [11, 0x33]
  | .frameWords => [11, 0x34]
  | .hamDec5 => [12, 1]
  | .hamDec6 => [12, 2]
  | .hamDec7 => [12, 3]
  | .hamDec8 => [12, 4]

/-- The packet of a bare table word. The table's numbers do not say their format, and the formats' numbers overlap (CMD 1, CSR
1, PHASE 1, FN 1 and HAM 1 are five rows). DESIGN CHOICE (log 2): up to 3 bits a Hamming code index; 4 bits a phase code, or a
command where no phase has the code; up to 8 bits a register number to read, or a function key where no register has the
number but a function does; more bits a word written to CTRL. -/
def tablePacket (nbits w : Nat) : Packet :=
  if nbits ≤ 3 then [12, BitVec.ofNat 8 (w % 8)]
  else if nbits ≤ 4 then
    if w % 16 ≤ 10 then [7, BitVec.ofNat 8 (w % 16)] else encodeCommand (BitVec.ofNat 4 w) 0
  else if nbits ≤ 8 then
    if 0x20 ≤ w % 256 ∧ w % 256 ≤ 0x34 then [11, BitVec.ofNat 8 w] else encodeCsr (BitVec.ofNat 8 w) .rd
  else 5 :: le32 (BitVec.ofNat 32 w)

/-- The instruction the decoder reads from a bare table word (log 2). -/
def decodeTableWord (nbits w : Nat) : Option Instr := (decode (tablePacket nbits w)).toOption

end Sys2Proof
end

