-- ==== Sys2Proof/Machine/State.lean ====
section
/-! DEFINITION. The state of one CORE, all of it (10_state R20), as plain data; the state after reset (70_reset R280); and the
reasons a step can stop. Fields the spec names keep its names. -/

namespace Sys2Proof.Machine

/-- `PHASE` (10_state R46, 30_encoding R97). -/
inductive Phase where
  | idle | search | sync | hdrDemod | hdrDecode | payDemod | payDecode | dewhiten | crc | emit | done
  deriving DecidableEq, Repr

/-- The eleven error kinds (60_exceptions R250), in the order of their codes 1 to 11. -/
inductive ErrKind where
  | syncNotFound | cfoOutOfRange | headerCrcMismatch | hammingUncorrectable | payloadCrcMismatch | insufficientSamples
  | configInvalid | headerFieldInvalid | payloadHammingUncorrectable | nonFiniteSample | commandInvalid
  deriving DecidableEq, Repr

/-- The status of a Hamming decode (43_deinterleave_hamming R166). -/
inductive HamStatus where
  | ok | corrected | uncorrectable
  deriving DecidableEq, Repr

/-- The RW registers, each with the bits the spec defines; reserved bits do not exist (10_state R26 to R38). -/
structure Csr where
  sf : BitVec 4
  bw : Word32
  fs : Word32
  cr : BitVec 3
  /-- `V0` in bits 7:0, `V1` in 15:8, `TWO` in bit 16 (R30) -/
  syncWord : BitVec 17
  /-- `HAS_CRC` bit 0, `IMPLICIT` bit 1, `DECIM_SUB` bit 2, `INJECT` bit 3 (R31) -/
  mode : BitVec 4
  payloadLen : BitVec 8
  ldroMode : BitVec 2
  nPreamble : BitVec 16
  searchWin : BitVec 16
  cfoMax : BitVec 16
  frameLimit : Word32
  attemptLimit : Word32
  deriving DecidableEq, Repr

/-- `CFG`, the configuration frozen by an accepted START, with the derived parameters (10_state R48, 00_scope R10). -/
structure Cfg where
  sf : Nat
  bw : Nat
  fs : Nat
  cr : Nat
  v0 : Nat
  v1 : Nat
  two : Bool
  hasCrc : Bool
  implicit : Bool
  decimSub : Bool
  inject : Bool
  payloadLength : Nat
  ldroMode : Nat
  nPre : Nat
  searchWin : Nat
  cfoMax : Nat
  frameLimit : Nat
  attemptLimit : Nat
  /-- `N = 2^sf` -/
  bins : Nat
  /-- `os = fs / bw` -/
  os : Nat
  /-- `Ns = os * N` -/
  ns : Nat
  ldro : Bool
  sfAppHdr : Nat
  sfAppPay : Nat
  s0 : Nat
  s1 : Nat
  /-- `WLEN`: `Ns`, or 1 in INJECT mode -/
  wlen : Nat
  deriving DecidableEq, Repr

/-- `SYNC`, the SyncState record (10_state R49). -/
structure Sync where
  cfoInt : Int
  cfoFrac : Rat
  sto : Nat
  snrDb : Ext Rat
  locked : Bool
  deriving DecidableEq, Repr

/-- `CAND`, the candidate PHASE SEARCH hands to PHASE SYNC (10_state R50). `q2` is an integer: R127 can take it below 0 (log 31). -/
structure Cand where
  q2 : Int
  cfoFrac : Rat
  snrDb : Ext Rat
  deriving DecidableEq, Repr

/-- One entry of `DIAG` (10_state R52, 42_symbol_demod R152). -/
structure Diag where
  kHat : Nat
  p2sDb : Ext Rat
  energy : Rat
  deriving DecidableEq, Repr

/-- `HDRF`, the HeaderFields record (10_state R53). -/
structure Hdrf where
  payloadLength : BitVec 8
  codingRate : BitVec 3
  hasCrc : Bool
  headerCrcOk : Bool
  valid : Bool
  deriving DecidableEq, Repr

/-- The Frame record (30_encoding R93). -/
structure Frame where
  payloadLength : BitVec 8
  codingRate : BitVec 3
  hasCrc : Bool
  headerCrcOk : Bool
  crcOk : Bool
  crcChecked : Bool
  implicit : Bool
  hamUnc : Nat
  payloadBytes : List Byte
  cfoInt : Int
  cfoFrac : Rat
  sto : Nat
  snrDb : Ext Rat
  hdrStart : Nat
  diag : List Diag
  deriving DecidableEq, Repr

/-- Parameters of the instance (00_scope R11): fixed, no step writes them. `storeDepth = none` is an unbounded store (log 11). -/
structure Inst where
  fifoDepth : Nat
  storeDepth : Option Nat
  deriving DecidableEq, Repr

/-- The operands of a pure function run as a row of its own (log 6): up to five naturals and two integers in the order the
rule names them, a real, a flag, and the lists and records some functions take. MODEL's own, not the spec's. -/
structure Call where
  n0 : Nat
  n1 : Nat
  n2 : Nat
  n3 : Nat
  n4 : Nat
  z0 : Int
  z1 : Int
  real : Rat
  snr : Ext Rat
  flag : Bool
  nats : List Nat
  reals : List Rat
  cplx : List Cx
  spectra : List (List Cx)
  powers : List (List Rat)
  err : ErrKind
  frame : Frame
  deriving DecidableEq, Repr

/-- The value such a function returned (log 6). MODEL's own, not the spec's. -/
inductive Ret where
  | none
  | nat (n : Nat)
  | int (z : Int)
  | bit (b : Bool)
  | real (r : Rat)
  | ext (x : Ext Rat)
  | optNat (n : Option Nat)
  | nats (l : List Nat)
  | bits (l : List (List Bool))
  | reals (l : List Rat)
  | cplx (l : List Cx)
  | tables (up down : List Cx)
  | float (value : Rat) (nonFinite : Bool)
  | syncMatch (e0 e1 : Int) (ok : Bool)
  | hdrStart (start sto : Nat)
  | ham (n : Nib) (st : HamStatus)
  | header (len : BitVec 8) (cr : BitVec 3) (crc : Bool)
  | symbols (need nblk nsym : Nat)
  | bytes (l : List Byte)
  | crc (c : BitVec 16)
  | words (l : List Word32)
  | phase (p : Phase)
  | diag (d : Diag)
  deriving DecidableEq, Repr

/-- The state of the CORE and of its ports. -/
structure State where
  csr : Csr
  cfg : Cfg
  phase : Phase
  p : Nat
  sympos : Nat
  hdrStart : Nat
  avail : Nat
  eos : Bool
  /-- `S`, the sample store: the entry at position `i` is `S[i]`; an injected bin `k` is the number `k` (20_memory R60, R79; log 21) -/
  store : List Cx
  sync : Sync
  cand : Cand
  symbuf : List Nat
  blklen : Nat
  diag : List Diag
  hdrf : Hdrf
  nib : List Nib
  need : Nat
  hamUnc : Nat
  bytes : List Byte
  lfsr : BitVec 9
  crcRx : BitVec 16
  crcCalc : BitVec 16
  crcOk : Bool
  crcChecked : Bool
  fifo : List Frame
  err : Word32
  lastErr : BitVec 4
  frameCount : Nat
  notfoundCount : Nat
  abortCount : Nat
  /-- MODEL's own: the host's pending transactions, oldest first (log 3) -/
  inbox : List Packet
  /-- MODEL's own: the word the CSR port last returned (log 5) -/
  rdata : Word32
  /-- MODEL's own: the words FRAME_OUT delivered at the latest POP (log 5) -/
  frameOut : List Word32
  /-- MODEL's own: operands of a function run as a row (log 6) -/
  call : Call
  /-- MODEL's own: what that function returned (log 6) -/
  ret : Ret
  inst : Inst
  deriving DecidableEq, Repr

/-- Why the machine stops. The spec has no fatal condition (60_exceptions R263, R268), so no instruction faults. -/
inductive Fault where
  /-- Raised by `step` alone, on a packet of `inbox` that has not the form of any kind of packet (log 26). Safe: it is no
  transaction of the spec, and the machine stops. -/
  | malformedPacket
  deriving DecidableEq, Repr

/-- Why a step has no meaning. -/
inductive Refusal where
  /-- An instruction without a meaning yet: raised by `exec`'s refused arms; there is none. Safe: the machine stops. -/
  | notModelled (mnemonic : String)
  /-- Raised by `step` alone, on a packet that names a code the opcode table has no row for (log 26). Safe: the machine stops. -/
  | noRow (kind code : Byte)
  deriving DecidableEq, Repr

/-- What a meaning answers. -/
abbrev Result := Host.Outcome State Fault Refusal

/-- The RW registers after reset (10_state R45): "`sync_word` ... default 0x12", eight preamble symbols, 32 symbol periods. -/
def Csr.reset : Csr where
  sf := 0
  bw := 0
  fs := 0
  cr := 0
  syncWord := 0x12
  mode := 0
  payloadLen := 0
  ldroMode := 0
  nPreamble := 8
  searchWin := 32
  cfoMax := 0
  frameLimit := 0
  attemptLimit := 0

/-- `CFG` after reset: unspecified (R48; 93 U13). DESIGN CHOICE: all 0 (log 9). -/
def Cfg.reset : Cfg where
  sf := 0
  bw := 0
  fs := 0
  cr := 0
  v0 := 0
  v1 := 0
  two := false
  hasCrc := false
  implicit := false
  decimSub := false
  inject := false
  payloadLength := 0
  ldroMode := 0
  nPre := 0
  searchWin := 0
  cfoMax := 0
  frameLimit := 0
  attemptLimit := 0
  bins := 0
  os := 0
  ns := 0
  ldro := false
  sfAppHdr := 0
  sfAppPay := 0
  s0 := 0
  s1 := 0
  wlen := 0

/-- `SYNC` after reset and START: "all fields 0" (R49). -/
def Sync.reset : Sync := ⟨0, 0, 0, .fin 0, false⟩

/-- `CAND` after reset: unspecified (R50). DESIGN CHOICE: all 0 (log 10). -/
def Cand.reset : Cand := ⟨0, 0, .fin 0⟩

/-- `HDRF` after reset and START: all 0 (R53). -/
def Hdrf.reset : Hdrf := ⟨0, 0, false, false, false⟩

/-- An all-zero Frame: the reset value of the call frame's record operand (log 6). -/
def Frame.zero : Frame := ⟨0, 0, false, false, false, false, false, 0, [], 0, 0, 0, .fin 0, 0, []⟩

/-- The call frame after reset (log 6). -/
def Call.reset : Call where
  n0 := 0
  n1 := 0
  n2 := 0
  n3 := 0
  n4 := 0
  z0 := 0
  z1 := 0
  real := 0
  snr := .fin 0
  flag := false
  nats := []
  reals := []
  cplx := []
  spectra := []
  powers := []
  err := .syncNotFound
  frame := .zero

/-- The machine right after reset (70_reset R280). -/
def State.reset : State where
  csr := .reset
  cfg := .reset
  phase := .idle
  p := 0
  sympos := 0
  hdrStart := 0
  avail := 0
  eos := false
  store := []
  sync := .reset
  cand := .reset
  symbuf := []
  blklen := 0
  diag := []
  hdrf := .reset
  nib := []
  need := 0
  hamUnc := 0
  bytes := []
  lfsr := 0x1FF
  crcRx := 0
  crcCalc := 0
  crcOk := false
  crcChecked := false
  fifo := []
  err := 0
  lastErr := 0
  frameCount := 0
  notfoundCount := 0
  abortCount := 0
  inbox := []
  rdata := 0
  frameOut := []
  call := .reset
  ret := .none
  inst := ⟨Config.frameFifoDepthPred + 1, Config.sampleStoreDepth⟩

end Sys2Proof.Machine
end

