-- ==== Sys2Proof/Machine/Numeric.lean ====
section
/-! DEFINITION. Binary32 words and exact numbers: the conversion of a pushed word (20_memory R67) and the rounding of a stored
real for the host (00_scope R16, 10_state R39, 30_encoding R94). -/

namespace Sys2Proof.Machine

/-- `f32(w)` (20_memory R67, 48 R216): the exact value of a finite word, `(0, true)` for a word with exponent 255. A finite
word is a multiple of `2^-149`. -/
def f32 (w : Word32) : Rat × Bool :=
  let e := (w.extractLsb' 23 8).toNat
  let f := (w.extractLsb' 0 23).toNat
  if e = 255 then (0, true)
  else
    let mag : Nat := if e = 0 then f else (2 ^ 23 + f) * 2 ^ (e - 1)
    (mkRat (if w.getLsbD 31 then -(mag : Int) else mag) (2 ^ 149), false)

/-- `n / d` rounded to the nearest integer, to the even one on a tie. -/
def roundHalfEven (n d : Nat) : Nat :=
  let k := n / d
  let r := n % d
  if 2 * r < d then k else if d < 2 * r then k + 1 else k + k % 2

/-- The exponent `e` with `2^e <= n/d < 2^(e+1)`, for positive `n` and `d`. -/
def floorLog2 (n d : Nat) : Int :=
  let e : Int := (Nat.log2 n : Int) - Nat.log2 d
  let below := if 0 ≤ e then n < d * 2 ^ e.toNat else n * 2 ^ (-e).toNat < d
  if below then e - 1 else e

/-- A stored real as binary32, "rounding to nearest even" (00_scope R16). PRESUMED (log 18): IEEE-754's rounding, with its
subnormal words and its overflow to infinity. -/
def toF32 (q : Rat) : Word32 :=
  if q = 0 then 0
  else
    let n := q.num.natAbs
    let d := q.den
    let e := max (floorLog2 n d) (-126)
    let m := if 23 ≤ e then roundHalfEven n (d * 2 ^ (e - 23).toNat) else roundHalfEven (n * 2 ^ (23 - e).toNat) d
    let mag := min ((e + 126).toNat * 2 ^ 23 + m) 0x7F800000
    BitVec.ofNat 32 (mag + if q < 0 then 2 ^ 31 else 0)

/-- A real or plus infinity as binary32: "`+Inf` is `0x7F80_0000`" (10_state R39). -/
def extF32 : Ext Rat → Word32
  | .fin q => toF32 q
  | .posInf => 0x7F800000

end Sys2Proof.Machine
end

