-- ==== Sys2Proof/Machine/Coding.lean ====
section
/-! DEFINITION. The bit-exact back end: Gray mapping (42), de-interleaver and Hamming codes (43), header fields (44), PN9 (46), CRC
(47), frame length and frame words (30). Pure functions; none depends on `NUM`. -/

namespace Sys2Proof.Machine

/-! ### Bin to symbol to Gray (42_symbol_demod) -/

/-- `BIN2SYM` (R147). -/
def bin2sym (n k : Nat) : Nat := (k + n - 1) % n

/-- `GRAY_ENC` (R148). -/
def grayEnc (s : Nat) : Nat := s ^^^ (s >>> 1)

/-- `GRAY_DEC` (R149): `g ^ (g >> 1) ^ ... ^ (g >> (sf-1))`. -/
def grayDec (sf g : Nat) : Nat := (List.range sf).foldl (fun acc i => acc ^^^ (g >>> i)) 0

/-- `SYM_REDUCE` (30_encoding R84): the `sf_app` most significant bits. -/
def symReduce (sf sfApp g : Nat) : Nat := g >>> (sf - sfApp)

/-- `SYMVAL` (R151). -/
def symval (n sf sfApp k : Nat) : Nat := symReduce sf sfApp (grayEnc (bin2sym n k))

/-! ### Diagonal de-interleaver (43_deinterleave_hamming) -/

/-- Bits, most significant first, as a number (R163). -/
def ofBits (l : List Bool) : Nat := l.foldl (fun acc b => 2 * acc + b.toNat) 0

/-- `INTER_BIN` (R161): `inter_bin[i][j] = v_i[sf_app - 1 - j]`. -/
def interBin (sfApp : Nat) (v : List Nat) : List (List Bool) :=
  v.map fun vi => (List.range sfApp).map fun j => vi.testBit (sfApp - 1 - j)

/-- Row `r` of the de-interleaved block: `deinter_bin[r][i] = v_i[(r - i) mod sf_app]` (R162, closed form). -/
def deinterRow (sfApp : Nat) (v : List Nat) (r : Nat) : List Bool :=
  v.mapIdx fun i vi => vi.testBit (((r : Int) - i) % sfApp).toNat

/-- `DEINTERLEAVE` (R162, R163): `sf_app` rows, each a codeword with symbol 0 in its most significant bit. -/
def deinterleave (sfApp : Nat) (v : List Nat) : List Nat := (List.range sfApp).map fun r => ofBits (deinterRow sfApp v r)

/-- `INTERLEAVE` (R164): `v_i[sf_app - 1 - j] = cw[(i - j - 1) mod sf_app][W - 1 - i]`. -/
def interleave (w : Nat) (cw : List Nat) : List Nat :=
  (List.range w).map fun (i : Nat) => ofBits ((List.range cw.length).map fun (j : Nat) =>
    (cw.getD (((i : Int) - j - 1) % (cw.length : Int)).toNat 0).testBit (w - 1 - i))

/-! ### Hamming codes (43_deinterleave_hamming) -/

/-- `HAM_ENC` (R165). An index outside 1 to 4 names no code: a free value (log 27). -/
def hamEnc (cr : Nat) (nib : Nib) : Nat :=
  let n0 := nib.getLsbD 0
  let n1 := nib.getLsbD 1
  let n2 := nib.getLsbD 2
  let n3 := nib.getLsbD 3
  let p0 := n0 ^^ n1 ^^ n2
  let p1 := n1 ^^ n2 ^^ n3
  let p2 := n0 ^^ n1 ^^ n3
  let p3 := n0 ^^ n2 ^^ n3
  let p4 := n0 ^^ n1 ^^ n2 ^^ n3
  match cr with
  | 4 => ofBits [n0, n1, n2, n3, p0, p1, p2, p3]
  | 3 => ofBits [n0, n1, n2, n3, p0, p1, p2]
  | 2 => ofBits [n0, n1, n2, n3, p0, p1]
  | 1 => ofBits [n0, n1, n2, n3, p4]
  | _ => Config.hamNoCode nib.toNat cr

/-- `nib(c)` of a codeword of `w` bits (R166): `c[W-1] | c[W-2] << 1 | c[W-3] << 2 | c[W-4] << 3`. -/
def nibOf (w c : Nat) : Nib :=
  BitVec.ofNat 4 (ofBits [c.testBit (w - 4), c.testBit (w - 3), c.testBit (w - 2), c.testBit (w - 1)])

/-- A corrected codeword: bit `pos` flipped (R166). -/
def hamFlip (w c pos : Nat) : Nib × HamStatus := (nibOf w (c ^^^ (1 <<< pos)), .corrected)

/-- `HAM_DEC8` (R167). -/
def hamDec8 (c : Nat) : Nib × HamStatus :=
  let b := fun i => c.testBit i
  match b 7 ^^ b 6 ^^ b 5 ^^ b 3, b 6 ^^ b 5 ^^ b 4 ^^ b 2, b 7 ^^ b 6 ^^ b 4 ^^ b 1, b 7 ^^ b 5 ^^ b 4 ^^ b 0 with
  | false, false, false, false => (nibOf 8 c, .ok)
  | true, false, true, true => hamFlip 8 c 7
  | true, true, true, false => hamFlip 8 c 6
  | true, true, false, true => hamFlip 8 c 5
  | false, true, true, true => hamFlip 8 c 4
  | true, false, false, false => hamFlip 8 c 3
  | false, true, false, false => hamFlip 8 c 2
  | false, false, true, false => hamFlip 8 c 1
  | false, false, false, true => hamFlip 8 c 0
  | _, _, _, _ => (nibOf 8 c, .uncorrectable)

/-- `HAM_DEC7` (R168): every non-zero syndrome names one bit. -/
def hamDec7 (c : Nat) : Nib × HamStatus :=
  let b := fun i => c.testBit i
  match b 6 ^^ b 5 ^^ b 4 ^^ b 2, b 5 ^^ b 4 ^^ b 3 ^^ b 1, b 6 ^^ b 5 ^^ b 3 ^^ b 0 with
  | false, false, false => (nibOf 7 c, .ok)
  | true, false, true => hamFlip 7 c 6
  | true, true, true => hamFlip 7 c 5
  | true, true, false => hamFlip 7 c 4
  | false, true, true => hamFlip 7 c 3
  | true, false, false => hamFlip 7 c 2
  | false, true, false => hamFlip 7 c 1
  | false, false, true => hamFlip 7 c 0

/-- `HAM_DEC6` (R169): detects, corrects nothing. -/
def hamDec6 (c : Nat) : Nib × HamStatus :=
  let b := fun i => c.testBit i
  match b 5 ^^ b 4 ^^ b 3 ^^ b 1, b 4 ^^ b 3 ^^ b 2 ^^ b 0 with
  | false, false => (nibOf 6 c, .ok)
  | _, _ => (nibOf 6 c, .uncorrectable)

/-- `HAM_DEC5` (R170): a single parity bit. -/
def hamDec5 (c : Nat) : Nib × HamStatus :=
  let b := fun i => c.testBit i
  if b 4 ^^ b 3 ^^ b 2 ^^ b 1 ^^ b 0 then (nibOf 5 c, .uncorrectable) else (nibOf 5 c, .ok)

/-- `ham_dec(c, cr)` (R171). An index outside 1 to 4 "cannot reach it": a free result (log 27). -/
def hamDec (c cr : Nat) : Nib × HamStatus :=
  match cr with
  | 4 => hamDec8 c
  | 3 => hamDec7 c
  | 2 => hamDec6 c
  | 1 => hamDec5 c
  | _ =>
    let x := Config.hamNoCode c cr
    (BitVec.ofNat 4 x, if x.testBit 4 then .ok else if x.testBit 5 then .corrected else .uncorrectable)

/-- `NIB2BYTE` (R172): pairs of nibbles, high nibble first, `n` bytes. A nibble the list does not hold is a free value (log 14). -/
def nib2byte (nib : List Nib) (n : Nat) : List Byte :=
  let at' := fun i => nib.getD i (BitVec.ofNat 4 (Config.absent i))
  (List.range n).map fun t => at' (2 * t) ++ at' (2 * t + 1)

/-! ### Header (44_header_decoder) -/

/-- `HDR_PARSE` (R183): `{h0, h1}`, `h2[3:1]`, `h2[0]`. -/
def hdrParse (h0 h1 h2 : Nib) : BitVec 8 × BitVec 3 × Bool := (h0 ++ h1, h2.extractLsb' 1 3, h2.getLsbD 0)

/-- `HDR_CHK` (R184): `{ c3, c2, c1, c0 }`. -/
def hdrChk (h0 h1 h2 : Nib) : Nib :=
  let c3 := h0.getLsbD 3 ^^ h1.getLsbD 3 ^^ h1.getLsbD 2 ^^ h1.getLsbD 1 ^^ h2.getLsbD 0
  let c2 := h0.getLsbD 2 ^^ h1.getLsbD 3 ^^ h1.getLsbD 0 ^^ h2.getLsbD 3 ^^ h2.getLsbD 1
  let c1 := h0.getLsbD 1 ^^ h1.getLsbD 2 ^^ h1.getLsbD 0 ^^ h2.getLsbD 2 ^^ h2.getLsbD 1 ^^ h2.getLsbD 0
  let c0 := h0.getLsbD 0 ^^ h1.getLsbD 1 ^^ h2.getLsbD 3 ^^ h2.getLsbD 2 ^^ h2.getLsbD 1 ^^ h2.getLsbD 0
  BitVec.ofNat 4 (ofBits [c3, c2, c1, c0])

/-! ### Frame length (30_encoding R89) -/

/-- `NEED` (R89, R190): two nibbles for each payload and CRC byte. -/
def needOf (len : Nat) (hasCrc : Bool) : Nat := 2 * (len + if hasCrc then 2 else 0)

/-- `nblk = ceil(NEED / sf_app_pay)` (R89). -/
def nblkOf (need sfAppPay : Nat) : Nat := (need + sfAppPay - 1) / sfAppPay

/-- `NSYM` (R89). -/
def nsymOf (implicit : Bool) (nblk cr : Nat) : Nat := (if implicit then 0 else 8) + nblk * (cr + 4)

/-! ### PN9 (46_dewhitener) -/

/-- `PN9_STEP` (R200): the output bit and the next register. -/
def pn9Step (l : BitVec 9) : Bool × BitVec 9 :=
  let fb := l.getLsbD 0 ^^ l.getLsbD 5
  (l.getLsbD 0, (l >>> 1) ||| (BitVec.ofNat 9 fb.toNat <<< 8))

/-- `k` steps, the bits shifted into `b` from the right. -/
def pn9Bits : Nat → Byte → BitVec 9 → Byte × BitVec 9
  | 0, b, l => (b, l)
  | k + 1, b, l => pn9Bits k ((b <<< 1) ||| BitVec.ofNat 8 (pn9Step l).1.toNat) (pn9Step l).2

/-- `PN9_BYTE` (R201): eight steps, the first output bit in bit 7. -/
def pn9Byte (l : BitVec 9) : Byte × BitVec 9 := pn9Bits 8 0 l

/-- The first `k` bytes XORed with the PN9 bytes from register `l`, and the register after (R203). Where the list holds fewer than
`k` bytes the spec is silent on the write. DESIGN CHOICE (log 14): nothing is appended, and the register still steps `k` bytes. -/
def whiten : Nat → BitVec 9 → List Byte → List Byte × BitVec 9
  | 0, l, bs => (bs, l)
  | k + 1, l, [] => whiten k (pn9Byte l).2 []
  | k + 1, l, b :: bs =>
    let r := whiten k (pn9Byte l).2 bs
    ((b ^^^ (pn9Byte l).1) :: r.1, r.2)

/-! ### CRC (47_crc_verifier) -/

/-- One of the eight shifts of `CRC16`. -/
def crcShift (c : BitVec 16) : BitVec 16 := if c.getLsbD 15 then (c <<< 1) ^^^ 0x1021 else c <<< 1

/-- One byte of `CRC16`. -/
def crcByte (c : BitVec 16) (b : Byte) : BitVec 16 :=
  crcShift (crcShift (crcShift (crcShift (crcShift (crcShift (crcShift (crcShift (c ^^^ (b.setWidth 16 <<< 8)))))))))

/-- `CRC16` (R205): polynomial 0x1021, initial value 0. -/
def crc16 (d : List Byte) : BitVec 16 := d.foldl crcByte 0

/-- `LORA_CRC` (R206): the last byte XORed into the low half, the one before it into the high half. -/
def loraCrc (d : List Byte) : BitVec 16 :=
  let n := d.length
  let c := crc16 (d.take (n - 2))
  let c := if 1 ≤ n then c ^^^ (d.getD (n - 1) 0).setWidth 16 else c
  if 2 ≤ n then c ^^^ ((d.getD (n - 2) 0).setWidth 16 <<< 8) else c

/-- A byte of a list; one the list does not hold is a free value (log 14). -/
def byteAt (l : List Byte) (i : Nat) : Byte := l.getD i (BitVec.ofNat 8 (Config.absent i))

/-- The first `n` bytes of a list; one the list does not hold is a free value (log 14). -/
def firstBytes (l : List Byte) (n : Nat) : List Byte := (List.range n).map (byteAt l)

/-- `CRC_RX` (R207): `BYTES[L] | (BYTES[L+1] << 8)`. -/
def crcRxOf (bytes : List Byte) (len : Nat) : BitVec 16 :=
  (byteAt bytes len).setWidth 16 ||| ((byteAt bytes (len + 1)).setWidth 16 <<< 8)

/-! ### Frame words (30_encoding R94) -/

/-- A flag as bit `i` of a word. -/
def flagBit (b : Bool) (i : Nat) : Word32 := BitVec.ofNat 32 b.toNat <<< i

/-- Payload bytes as words: byte `t` in word `t / 4` at bits `8*(t mod 4)`; unused bits of the last word 0. -/
def packBytes : List Byte → List Word32
  | [] => []
  | [a] => [a.setWidth 32]
  | [a, b] => [(b ++ a).setWidth 32]
  | [a, b, c] => [(c ++ b ++ a).setWidth 32]
  | a :: b :: c :: d :: rest => ofLe32 a b c d :: packBytes rest

/-- The three words of one symbol's diagnostics. -/
def diagWords (d : Diag) : List Word32 := [BitVec.ofNat 32 d.kHat, extF32 d.p2sDb, toF32 d.energy]

/-- W0 (R94). -/
def frameW0 (f : Frame) : Word32 :=
  f.payloadLength.setWidth 32 ||| (f.codingRate.setWidth 32 <<< 8) ||| flagBit f.hasCrc 11 ||| flagBit f.headerCrcOk 12
    ||| flagBit f.crcOk 13 ||| flagBit f.crcChecked 14 ||| flagBit f.implicit 15
    ||| ((BitVec.ofNat 9 f.payloadBytes.length).setWidth 32 <<< 16)

/-- W1 (R94). -/
def frameW1 (f : Frame) : Word32 :=
  (BitVec.ofNat 10 f.diag.length).setWidth 32 ||| ((BitVec.ofNat 10 f.hamUnc).setWidth 32 <<< 16)

/-- `FRAME_WORDS` (R94): the record as words on FRAME_OUT. -/
def frameWords (f : Frame) : List Word32 :=
  [frameW0 f, frameW1 f, BitVec.ofInt 32 f.cfoInt, toF32 f.cfoFrac, BitVec.ofNat 32 f.sto, extF32 f.snrDb,
   BitVec.ofNat 32 f.hdrStart, BitVec.ofNat 32 (f.hdrStart / 2 ^ 32)]
    ++ packBytes f.payloadBytes ++ f.diag.flatMap diagWords

end Sys2Proof.Machine
end

