-- ==== Sys2Proof/Machine/Flags.lean ====
section
/-! DEFINITION. The error record (60_exceptions R250, R262) and the flags of the sequencer that depend on registers alone. -/

namespace Sys2Proof.Machine

/-- The code of an error kind (R250, 30_encoding R98). -/
def ErrKind.code : ErrKind → Nat
  | .syncNotFound => 1
  | .cfoOutOfRange => 2
  | .headerCrcMismatch => 3
  | .hammingUncorrectable => 4
  | .payloadCrcMismatch => 5
  | .insufficientSamples => 6
  | .configInvalid => 7
  | .headerFieldInvalid => 8
  | .payloadHammingUncorrectable => 9
  | .nonFiniteSample => 10
  | .commandInvalid => 11

/-- `raise X` (R262): `ERR[c] <- 1`, `LAST_ERR <- c`, and nothing else. -/
def raise (k : ErrKind) (s : State) : State :=
  { s with err := s.err ||| (1#32 <<< k.code), lastErr := BitVec.ofNat 4 k.code }

/-- The code of a phase (30_encoding R97). -/
def Phase.code : Phase → Nat
  | .idle => 0
  | .search => 1
  | .sync => 2
  | .hdrDemod => 3
  | .hdrDecode => 4
  | .payDemod => 5
  | .payDecode => 6
  | .dewhiten => 7
  | .crc => 8
  | .emit => 9
  | .done => 10

/-- `PHASE` is none of IDLE, DONE (48 R231). -/
def running (s : State) : Bool :=
  match s.phase with
  | .idle => false
  | .done => false
  | _ => true

/-- The frame FIFO holds `FRAME_FIFO_DEPTH` records (48 R233; log 22). -/
def fifoFull (s : State) : Bool := decide (s.inst.fifoDepth ≤ s.fifo.length)

end Sys2Proof.Machine
end

