-- ==== Sys2Proof/Machine/FrontEnd.lean ====
section
/-! DEFINITION. The numeric front end: ChirpReference (40), FrameSynchronizer (41) and the correlator and peak search of
SymbolDemodulator (42), over any arithmetic `A` (00_scope R16). `machineArith` is the machine's. An evaluation that reads a window
not wholly below AVAIL answers `none`: it is starved (20_memory R64). Sums run in the rule's order (log 8). An element that a list
does not hold is a free value (log 32). -/

namespace Sys2Proof.Machine

variable {R C : Type}

/-- The machine's arithmetic: the instance's `NUM` with exact rational sums, products and comparisons (log 7). -/
def machineArith : Arith Rat Cx :=
  { Config.num with
    ofRat := fun q => q
    ofCx := fun z => z
    radd := fun a b => a + b
    rmul := fun a b => a * b
    rdiv := fun a b => a / b
    rlt := fun a b => decide (a < b)
    conj := fun z => ⟨z.re, -z.im⟩
    isZero := fun z => decide (z = ⟨0, 0⟩) }

/-! ### Sums, comparisons and peaks -/

/-- The real 0. -/
def rzero (A : Arith R C) : R := A.ofRat 0

/-- The complex 0. -/
def czero (A : Arith R C) : C := A.ofCx ⟨0, 0⟩

/-- A sum in the order of its terms, from the first one on: a sum of one term is that term, the sum of no terms is `zero`
(DEDUCED, log 8). -/
def sumOf {α : Type} (add : α → α → α) (zero : α) : List α → α
  | [] => zero
  | x :: xs => xs.foldl add x

/-- The sum of a list of reals. -/
def rsum (A : Arith R C) (l : List R) : R := sumOf A.radd (rzero A) l

/-- The sum of a list of complex numbers. -/
def csum (A : Arith R C) (l : List C) : C := sumOf A.cadd (czero A) l

/-- Entry `i` of a list of reals. One that the list does not hold is a free value (log 32). -/
def realAt (A : Arith R C) (l : List R) (i : Nat) : R := l.getD i (A.ofRat (Config.absentReal i))

/-- Entry `i` of a list of complex numbers. One that the list does not hold is a free value (log 32). -/
def cxAt (A : Arith R C) (l : List C) (i : Nat) : C := l.getD i (A.ofCx (Config.absentCx i))

/-- A real is 0. -/
def isZeroR (A : Arith R C) (x : R) : Bool := !A.rlt (rzero A) x && !A.rlt x (rzero A)

/-- Circular distance of two bins (00_scope R15). -/
def circdist (n : Nat) (a b : Int) : Nat := min ((a - b) % n).toNat ((b - a) % n).toNat

/-- Signed residue of a bin (00_scope R15): in `[-N/2, N/2)`. -/
def sgnN (n : Nat) (v : Int) : Int :=
  let r := v % n
  if (n : Int) ≤ 2 * r then r - n else r

/-- The peak's search, with the best value so far, its index, and the index of the head of the rest. -/
def peakFrom (A : Arith R C) (best : R) (bi i : Nat) : List R → Nat
  | [] => bi
  | x :: xs => if A.rlt best x then peakFrom A x i (i + 1) xs else peakFrom A best bi (i + 1) xs

/-- `peak(P)`, the lowest index of the largest value (00_scope R17). Of an empty list, where the rule's set is empty and has no
least element, it is a free value: DESIGN CHOICE (log 32). -/
def peak (A : Arith R C) : List R → Nat
  | [] => Config.noPeak
  | x :: xs => peakFrom A x 0 1 xs

/-- The largest value. -/
def maxPower (A : Arith R C) (l : List R) : R := realAt A l (peak A l)

/-- The values of the bins `0 .. N-1` other than `k`, in order (41 R125, 42 R152). -/
def othersOf (A : Arith R C) (n : Nat) (l : List R) (k : Nat) : List R :=
  ((List.range n).filter fun j => decide (j ≠ k)).map (realAt A l)

/-- A list of evaluations, in order: starved if one of them is. -/
def mapO {α β : Type} (f : α → Option β) : List α → Option (List β)
  | [] => some []
  | a :: as =>
    match f a with
    | none => none
    | some b =>
      match mapO f as with
      | none => none
      | some bs => some (b :: bs)

/-! ### ChirpReference (40_chirp_reference) -/

/-- The up-chirp's phase in turns at chip `t`: `t^2/(2N) - t/2` (R110, R112). -/
def chirpPhase (n : Nat) (t : Rat) : Rat := t * t / (2 * n) - t / 2

/-- `CHIRP_UP` (R110): `N` values. -/
def chirpUp (A : Arith R C) (n : Nat) : List C :=
  (List.range n).map fun (k : Nat) => A.cexp (A.ofRat (chirpPhase n (k : Rat)))

/-- `CHIRP_DOWN` (R111): the conjugates. -/
def chirpDown (A : Arith R C) (n : Nat) : List C := (chirpUp A n).map A.conj

/-- `C_up` of `CHIRP_REF_OS` (R112): the same phase at the chip index `m / os`, `os * N` values. -/
def refUp (A : Arith R C) (n os : Nat) : List C :=
  (List.range (os * n)).map fun (m : Nat) => A.cexp (A.ofRat (chirpPhase n ((m : Rat) / (os : Rat))))

/-- `C_down` of `CHIRP_REF_OS` (R112). -/
def refDown (A : Arith R C) (n os : Nat) : List C := (refUp A n os).map A.conj

/-! ### The correlator (42_symbol_demod R141 to R146) -/

/-- `CFO_FRAC_CORRECT` (R144): sample `m` times `exp(-j*2*pi*cf*m/Ns)`. -/
def fracCorrect (A : Arith R C) (ns : Nat) (cf : R) (x : List C) : List C :=
  x.mapIdx fun m z => A.cmul z (A.cexp (A.rmul cf (A.ofRat (-((m : Rat) / (ns : Rat))))))

/-- `DECIMATE` (R142): sum each block of `os` values, or take its first; for `os = 1` the two are the same. Run as a row on a list
shorter than `Ns`, it reads a free value for each missing entry, in SUM as in SUBSAMPLE: DESIGN CHOICE (log 32). -/
def decimate (A : Arith R C) (sub : Bool) (n os : Nat) (z : List C) : List C :=
  (List.range n).map fun k =>
    if sub then cxAt A z (k * os) else csum A ((List.range os).map fun q => cxAt A z (k * os + q))

/-- `DFT` (R143): all `N` bins. -/
def dft (A : Arith R C) (n : Nat) (y : List C) : List C := (List.range n).map fun k => A.fft n y k

/-- The steps of `DECHIRP_FFT` (R141) on a window of complex numbers: correct, conjugate, dechirp, decimate, transform. -/
def correlate (A : Arith R C) (cfg : Cfg) (conjIn : Bool) (cf : R) (win : List C) : List C :=
  let x := fracCorrect A cfg.ns cf win
  let x := if conjIn then x.map A.conj else x
  let z := List.zipWith A.cmul x (refDown A cfg.bins cfg.os)
  dft A cfg.bins (decimate A cfg.decimSub cfg.bins cfg.os z)

/-- `DECHIRP_FFT`, `spectrum(a, conj_in, cf)` (R141), on the window's samples. -/
def spectrum (A : Arith R C) (cfg : Cfg) (conjIn : Bool) (cf : R) (win : List Cx) : List C :=
  correlate A cfg conjIn cf (win.map A.ofCx)

/-- The powers of a spectrum. -/
def powers (A : Arith R C) (y : List C) : List R := y.map A.abs2

/-- `CFO_INT_CORRECT` (R145): `PK[k] = abs2(Y[(k + cfo_int) mod N])`. Run as a row on a spectrum of fewer than `N` bins, it reads a
free value for each missing bin: DESIGN CHOICE (log 32). -/
def intCorrect (A : Arith R C) (n : Nat) (cfoInt : Int) (y : List C) : List R :=
  (List.range n).map fun (k : Nat) => A.abs2 (cxAt A y (((k : Int) + cfoInt) % n).toNat)

/-- Ten times the decimal logarithm of a ratio. -/
def ratioDb (A : Arith R C) (a b : R) : R := A.rmul (A.ofRat 10) (A.log10 (A.rdiv a b))

/-- `p2s_db` of `DIAGNOSTICS` (R152), of the `N` powers `PK` and the bin `k`. A power that the list does not hold, and the largest of
no other powers, is a free value: DESIGN CHOICE (log 32). -/
def peakToSecond (A : Arith R C) (n : Nat) (pk : List R) (k : Nat) : Ext R :=
  let top := realAt A pk k
  let second := maxPower A (othersOf A n pk k)
  if isZeroR A top then .fin (rzero A)
  else if isZeroR A second then .posInf
  else .fin (ratioDb A top second)

/-- `energy` of `DIAGNOSTICS` (R152). -/
def windowEnergy (A : Arith R C) (win : List Cx) : R := rsum A (win.map fun z => A.abs2 (A.ofCx z))

/-! ### PHASE SEARCH (41_frame_sync R121 to R127) -/

/-- The spectrum of the window at `a`, if the window can be read. -/
def specAt (A : Arith R C) (cfg : Cfg) (rd : Nat → Option (List Cx)) (conjIn : Bool) (cf : R) (a : Nat) : Option (List C) :=
  match rd a with
  | none => none
  | some win => some (spectrum A cfg conjIn cf win)

/-- The power spectra of a run, summed bin by bin. -/
def sumPowers (A : Arith R C) (n : Nat) (pw : List (List R)) : List R :=
  (List.range n).map fun k => rsum A (pw.map fun p => realAt A p k)

/-- `STABLE` (R123): every peak has non-zero power and lies within one bin of the first. Run as a row, it takes the windows
that `b` has a peak of, where the rule has `R = n_pre - 1`: DESIGN CHOICE (log 34). A power that `PW` does not hold is a free value
(log 32). -/
def stable (A : Arith R C) (n : Nat) (pw : List (List R)) (b : List Nat) : Bool :=
  (List.range b.length).all fun w =>
    A.rlt (rzero A) (realAt A (pw.getD w []) (b.getD w 0))
      && decide (circdist n ((b.getD w 0 : Nat) : Int) ((b.getD 0 0 : Nat) : Int) ≤ 1)

/-- `FRAC_CFO` (R124): the phase, in turns, of the lag-one correlation of bin `bb` over the run, in `[-0.5, 0.5)`.
Run as a row, it sums over as many spectra as it is given, where the rule has `R = n_pre - 1`: DESIGN CHOICE (log 34). A value that a
spectrum does not hold is free (log 32). -/
def fracCfo (A : Arith R C) (ys : List (List C)) (bb : Nat) : R :=
  let d := csum A (List.zipWith
    (fun y1 y0 => A.cmul (cxAt A y1 bb) (A.conj (cxAt A y0 bb))) ys.tail ys)
  if A.isZero d then rzero A
  else
    let a := A.arg d
    let half := A.ofRat (1 / 2)
    if !A.rlt a half && !A.rlt half a then A.ofRat (-1 / 2) else a

/-- Insert into an ascending list. -/
def insertAsc (A : Arith R C) (x : R) : List R → List R
  | [] => [x]
  | y :: ys => if A.rlt y x then y :: insertAsc A x ys else x :: y :: ys

/-- Sort ascending. -/
def sortAsc (A : Arith R C) : List R → List R
  | [] => []
  | x :: xs => insertAsc A x (sortAsc A xs)

/-- `SNR_EST` (R125): peak-bin power over the median of the other `N - 1`, in dB. A power that `PC` does not hold, and the median of
no other powers, is a free value (log 32). -/
def snrEst (A : Arith R C) (n : Nat) (pc : List R) (b2 : Nat) : Ext R :=
  let med := realAt A (sortAsc A (othersOf A n pc b2)) ((n - 2) / 2)
  if isZeroR A med then .posInf else .fin (ratioDb A (realAt A pc b2) med)

/-- `COARSE_ALIGN` (R126): `q + ((N - b2) mod N) * os`. -/
def coarseAlign (n os q b2 : Nat) : Nat := q + (((n : Int) - b2) % n).toNat * os

/-- `M[d]` of `FINE_TIMING` (R127): the bin-0 power of the inner preamble windows at the offset `d`. -/
def timingMetric (A : Arith R C) (cfg : Cfg) (rd : Nat → Option (List Cx)) (q2 : Nat) (cf : R) (d : Int) : Option R :=
  match mapO (fun (w : Nat) => specAt A cfg rd false cf ((q2 : Int) + d + ((w + 1) * cfg.ns : Nat)).toNat)
      (List.range (cfg.nPre - 1 - 2)) with
  | none => none
  | some ys => some (rsum A (ys.map fun y => A.abs2 (cxAt A y 0)))

/-- `FINE_TIMING` (R127): the smallest offset in `[-floor(os/2), floor(os/2)]` with the largest metric. -/
def fineTiming (A : Arith R C) (cfg : Cfg) (rd : Nat → Option (List Cx)) (q2 : Nat) (cf : R) : Option Int :=
  let h := cfg.os / 2
  match mapO (fun (i : Nat) => timingMetric A cfg rd q2 cf ((i : Int) - h)) (List.range (2 * h + 1)) with
  | none => none
  | some ms => some ((peak A ms : Int) - h)

/-- What PHASE SEARCH finds: the aligned index, the fractional CFO and the SNR (10_state R50). The index is an integer: R127 can
move it up to `floor(os/2)` below 0 (R134; log 31). -/
abbrev Found (R : Type) := Int × R × Ext R

/-- One candidate at `q` (R121): starved, not stable, or found. -/
def examine (A : Arith R C) (cfg : Cfg) (rd : Nat → Option (List Cx)) (q : Nat) : Option (Option (Found R)) :=
  let run := (List.range (cfg.nPre - 1)).map fun w => q + w * cfg.ns
  match mapO (specAt A cfg rd false (rzero A)) run with
  | none => none
  | some ys =>
    let pw := ys.map (powers A)
    if stable A cfg.bins pw (pw.map (peak A)) then
      let cf := fracCfo A ys (peak A (sumPowers A cfg.bins pw))
      match mapO (specAt A cfg rd false cf) run with
      | none => none
      | some yc =>
        let pc := sumPowers A cfg.bins (yc.map (powers A))
        let b2 := peak A pc
        let q2 := coarseAlign cfg.bins cfg.os q b2
        match fineTiming A cfg rd q2 cf with
        | none => none
        | some d => some (some ((q2 : Int) + d, cf, snrEst A cfg.bins pc b2))
    else some none

/-- The candidates in order; the first stable one wins (R121). -/
def searchFrom (A : Arith R C) (cfg : Cfg) (rd : Nat → Option (List Cx)) (p : Nat) : List Nat → Option (Option (Found R))
  | [] => some none
  | w0 :: rest =>
    match examine A cfg rd (p + w0 * cfg.ns) with
    | none => none
    | some (some f) => some (some f)
    | some none => searchFrom A cfg rd p rest

/-- One attempt of PHASE SEARCH from `p`: the `search_win - n_pre + 1` candidates of R122. -/
def searchAttempt (A : Arith R C) (cfg : Cfg) (rd : Nat → Option (List Cx)) (p : Nat) : Option (Option (Found R)) :=
  searchFrom A cfg rd p (List.range (cfg.searchWin + 1 - cfg.nPre))

/-! ### PHASE SYNC (41_frame_sync R129 to R134) -/

/-- `FIND_DOWNCHIRP` (R130): the first of the windows `ws` whose conjugated path has the larger peak power. -/
def findDownIn (A : Arith R C) (cfg : Cfg) (rd : Nat → Option (List Cx)) (q2 : Int) (cf : R) : List Nat → Option (Option Nat)
  | [] => some none
  | w :: rest =>
    let a := (q2 + (w * cfg.ns : Nat)).toNat
    match specAt A cfg rd false cf a, specAt A cfg rd true cf a with
    | some u, some d =>
      if A.rlt (maxPower A (powers A u)) (maxPower A (powers A d)) then some (some w)
      else findDownIn A cfg rd q2 cf rest
    | _, _ => none

/-- `FIND_DOWNCHIRP` over the windows `n_pre - 2 .. n_pre + 1` (R129, R130). -/
def findDownchirp (A : Arith R C) (cfg : Cfg) (rd : Nat → Option (List Cx)) (q2 : Int) (cf : R) : Option (Option Nat) :=
  findDownIn A cfg rd q2 cf ((List.range 4).map fun i => cfg.nPre - 2 + i)

/-- The offset of a measured sync bin from its configured value (R129). -/
def syncOffset (n g s : Nat) : Int := sgnN n ((g : Int) - s)

/-- `SYNC_WORD_MATCH` (R131): the two offsets agree within one bin. -/
def syncWordMatch (n : Nat) (e0 e1 : Int) : Bool := decide (circdist n e0 e1 ≤ 1)

/-- `CFO_INT` (R132): `-floor((e0 + 1) / 2)`. -/
def cfoIntOf (e0 : Int) : Int := -((e0 + 1) / 2)

/-- `CFO_RANGE_CHECK` (R133): `cfo_max != 0` and `|cfo_int + cf| > cfo_max`. -/
def cfoOutOfRange (A : Arith R C) (cfoMax : Nat) (c : Int) (cf : R) : Bool :=
  let t := A.radd (A.ofRat c) cf
  decide (cfoMax ≠ 0) && (A.rlt (A.ofRat cfoMax) t || A.rlt t (A.ofRat (-(cfoMax : Rat))))

/-- `hdr_start` (R134). -/
def hdrStartOf (cfg : Cfg) (a0 : Int) (c : Int) : Nat :=
  (a0 + c * cfg.os + 2 * cfg.ns + (cfg.ns / 4 : Nat)).toNat

/-- `sto` (R134): `(hdr_start - P) mod Ns`. -/
def stoOf (cfg : Cfg) (start p : Nat) : Nat := (((start : Int) - p) % cfg.ns).toNat

/-- How an evaluation of PHASE SYNC ends (R129). -/
inductive SyncResult where
  | notFound
  | cfoOut
  | locked (cfoInt : Int) (sto hdrStart : Nat)
  deriving DecidableEq, Repr

/-- `SYNC_MATCH` from the candidate `(q2, cf)` (R129). -/
def syncAttempt (A : Arith R C) (cfg : Cfg) (rd : Nat → Option (List Cx)) (p : Nat) (q2 : Int) (cf : R) :
    Option SyncResult :=
  match findDownchirp A cfg rd q2 cf with
  | none => none
  | some none => some .notFound
  | some (some wd) =>
    let a0 := q2 + (wd * cfg.ns : Nat)
    match specAt A cfg rd true cf a0.toNat, specAt A cfg rd true cf (a0 + cfg.ns).toNat with
    | some y0, some y1 =>
      let e0 := syncOffset cfg.bins (peak A (powers A y0)) cfg.s0
      let e1 := syncOffset cfg.bins (peak A (powers A y1)) cfg.s1
      if syncWordMatch cfg.bins e0 e1 then
        let c := cfoIntOf e0
        if cfoOutOfRange A cfg.cfoMax c cf then some .cfoOut
        else
          let start := hdrStartOf cfg a0 c
          some (.locked c (stoOf cfg start p) start)
      else some .notFound
    | _, _ => none

end Sys2Proof.Machine
end

