-- ==== Sys2Proof/Machine/Ops.lean ====
section
/-! DEFINITION. The named operations over the state: the sample store (20), the shared actions of the sequencer (48), the
operations of the phases (41, 42, 44 to 47, 48) and the host's operations (48 section 1). An error is recorded by `raise`
(60_exceptions R262); what it does to control is the shared action that follows it (R266), and the sequencer resumes by
`nextSearch` (R267). -/

namespace Sys2Proof.Machine

/-! ### Sample store -/

/-- `RETIRE` (20_memory R62). -/
def retire (s : State) : Nat := if s.sync.locked then s.sympos else s.p

/-- A read `S[i]` (R63). Below `RETIRE`, and where the store has no entry, it is not defined: a free value (log 13). -/
def sampleAt (s : State) (i : Nat) : Cx :=
  if i < retire s then Config.retiredSample i else s.store.getD i (Config.retiredSample i)

/-- The `len` entries from index `a`, read whole or not at all (R64, R69): `none` is starved. -/
def window (s : State) (len a : Nat) : Option (List Cx) :=
  if a + len ≤ s.avail then some ((List.range len).map fun m => sampleAt s (a + m)) else none

/-- The store holds `SAMPLE_STORE_DEPTH` entries (R65). -/
def storeFull (s : State) : Bool :=
  match s.inst.storeDepth with
  | none => false
  | some d => decide (d ≤ s.avail - min (retire s) s.avail)

/-- The store after one more entry (R61): at index `AVAIL`, the only place the host can write. -/
def appendSample (z : Cx) (s : State) : State := { s with store := s.store ++ [z], avail := s.avail + 1 }

/-- The memory's canonical form: exactly the entries `0 .. AVAIL-1` (20_memory R61). -/
def Memory.wf (s : State) : Bool := s.store.length == s.avail

/-! ### Configuration -/

/-- The auto condition of LDRO (00_scope R10): `N * 1000 > 16 * bw`. -/
def ldroAutoOn (n bw : Nat) : Bool := decide (16 * bw < n * 1000)

/-- `ldro` (00_scope R10). -/
def ldroOf (mode n bw : Nat) : Bool := decide (mode = 1) || (decide (mode = 2) && ldroAutoOn n bw)

/-- `SYNC_SYMBOLS` (30_encoding R92): the raw bins `S0`, `S1`. -/
def syncSymbolsOf (n v0 v1 : Nat) (two : Bool) : Nat × Nat :=
  if two then (v0 % n, v1 % n) else ((v0 / 16 * 8) % n, (v0 % 16 * 8) % n)

/-- `config_valid` (48 R220). -/
def configOk (c : Csr) : Bool :=
  decide (7 ≤ c.sf.toNat) && decide (c.sf.toNat ≤ 12)
    && decide (c.bw ≠ 0)
    && decide (c.fs ≠ 0) && decide (c.fs.toNat % c.bw.toNat = 0)
    && decide (1 ≤ c.cr.toNat) && decide (c.cr.toNat ≤ 4)
    && decide (c.ldroMode ≠ 3)
    && decide (4 ≤ c.nPreamble.toNat)
    && decide (c.nPreamble.toNat ≤ c.searchWin.toNat)
    && !(c.mode.getLsbD 3 && c.mode.getLsbD 1 && decide (c.payloadLen = 0) && !c.mode.getLsbD 0)

/-- `freeze(CSR)` (48 R221): the copy of 10_state R48 with the derived parameters of 00_scope R10. -/
def freeze (c : Csr) : Cfg :=
  let sf := c.sf.toNat
  let n := 2 ^ sf
  let os := c.fs.toNat / c.bw.toNat
  let ldro := ldroOf c.ldroMode.toNat n c.bw.toNat
  let v0 := (c.syncWord.extractLsb' 0 8).toNat
  let v1 := (c.syncWord.extractLsb' 8 8).toNat
  let two := c.syncWord.getLsbD 16
  let inject := c.mode.getLsbD 3
  { sf := sf
    bw := c.bw.toNat
    fs := c.fs.toNat
    cr := c.cr.toNat
    v0 := v0
    v1 := v1
    two := two
    hasCrc := c.mode.getLsbD 0
    implicit := c.mode.getLsbD 1
    decimSub := c.mode.getLsbD 2
    inject := inject
    payloadLength := c.payloadLen.toNat
    ldroMode := c.ldroMode.toNat
    nPre := c.nPreamble.toNat
    searchWin := c.searchWin.toNat
    cfoMax := c.cfoMax.toNat
    frameLimit := c.frameLimit.toNat
    attemptLimit := c.attemptLimit.toNat
    bins := n
    os := os
    ns := os * n
    ldro := ldro
    sfAppHdr := sf - 2
    sfAppPay := sf - 2 * ldro.toNat
    s0 := (syncSymbolsOf n v0 v1 two).1
    s1 := (syncSymbolsOf n v0 v1 two).2
    wlen := if inject then 1 else os * n }

/-! ### Shared actions of the sequencer -/

/-- `next_search` (48 R236), on the counters as they stand. -/
def nextPhase (s : State) : Phase :=
  if s.cfg.frameLimit ≠ 0 ∧ s.cfg.frameLimit ≤ s.frameCount then .done
  else if s.cfg.attemptLimit ≠ 0 ∧ s.cfg.attemptLimit ≤ s.notfoundCount + s.abortCount then .done
  else .search

/-- `PHASE <- next_search()`. -/
def toNextSearch (s : State) : State := { s with phase := nextPhase s }

/-- `SYNC.locked <- 0`. -/
def unlock (s : State) : State := { s with sync := { s.sync with locked := false } }

/-- `sync_fail` (41_frame_sync R135). -/
def syncFailed (s : State) : State :=
  toNextSearch (unlock { s with notfoundCount := s.notfoundCount + 1, p := s.p + s.cfg.ns })

/-- `header_abort` (48 R227). -/
def headerAborted (s : State) : State :=
  toNextSearch (unlock { s with abortCount := s.abortCount + 1, p := s.sympos, symbuf := [] })

/-- `payload_setup` (48 R226). -/
def setupPayload (s : State) : State :=
  let need := needOf s.hdrf.payloadLength.toNat s.hdrf.hasCrc
  { s with
    need := need
    nib := []
    hamUnc := 0
    symbuf := []
    blklen := s.hdrf.codingRate.toNat + 4
    phase := if need = 0 then .dewhiten else .payDemod }

/-- `HDRF` of an implicit header (44 R189). -/
def implicitHdrf (c : Cfg) : Hdrf := ⟨BitVec.ofNat 8 c.payloadLength, BitVec.ofNat 3 c.cr, c.hasCrc, true, true⟩

/-- The registers `lock` writes in either mode (48 R225). -/
def lockRegs (cfoInt : Int) (cfoFrac : Rat) (sto : Nat) (snr : Ext Rat) (start : Nat) (s : State) : State :=
  { s with
    sync := ⟨cfoInt, cfoFrac, sto, snr, true⟩
    hdrStart := start
    sympos := start
    diag := []
    symbuf := []
    nib := []
    hamUnc := 0
    bytes := [] }

/-- `lock` (48 R225). -/
def lockOn (cfoInt : Int) (cfoFrac : Rat) (sto : Nat) (snr : Ext Rat) (start : Nat) (s : State) : State :=
  let s := lockRegs cfoInt cfoFrac sto snr start s
  if s.cfg.implicit then setupPayload { s with hdrf := implicitHdrf s.cfg }
  else { s with hdrf := .reset, blklen := 8, phase := .hdrDemod }

/-- The end-of-stream action of a starved operation (48 R235), by the phase of the operation. The others are never starved. -/
def endOfStream (ph : Phase) (s : State) : State :=
  match ph with
  | .search | .sync => { unlock s with phase := .done }
  | .hdrDemod | .payDemod =>
    { unlock (raise .insufficientSamples s) with hdrf := { s.hdrf with valid := false }, phase := .done }
  | _ => s

/-- A starved operation (20_memory R64): it holds, or takes its end-of-stream action. -/
def starve (ph : Phase) (s : State) : State := if s.eos then endOfStream ph s else s

/-! ### Operations of the phases -/

/-- The evaluation of PREAMBLE_SEARCH in this state. -/
def searchResult (s : State) : Option (Option (Found Rat)) := searchAttempt machineArith s.cfg (window s s.cfg.ns) s.p

/-- `PREAMBLE_SEARCH` (41 R121). -/
def preambleSearchOp (s : State) : State :=
  match searchResult s with
  | none => starve .search s
  | some none => syncFailed (raise .syncNotFound s)
  | some (some (q2, cf, snr)) => { s with cand := ⟨q2, cf, snr⟩, phase := .sync }

/-- The evaluation of SYNC_MATCH in this state. -/
def syncResult (s : State) : Option SyncResult :=
  syncAttempt machineArith s.cfg (window s s.cfg.ns) s.p s.cand.q2 s.cand.cfoFrac

/-- `SYNC_MATCH` (41 R129). -/
def syncMatchOp (s : State) : State :=
  match syncResult s with
  | none => starve .sync s
  | some .notFound => syncFailed (raise .syncNotFound s)
  | some .cfoOut => syncFailed (raise .cfoOutOfRange s)
  | some (.locked c sto start) => lockOn c s.cand.cfoFrac sto s.cand.snrDb start s

/-- `INJECT_SEARCH` (48 R240). -/
def injectSearchOp (s : State) : State :=
  if s.avail ≤ s.p then starve .search s else lockOn 0 0 0 (.fin 0) s.p s

/-- An injected bin: the integer that the entry is (20_memory R79; log 21). -/
def binOf (z : Cx) : Nat := z.re.num.toNat

/-- The diagnostics of a bin `k` that did not come from samples: "In INJECT mode `p2s_db = 0` and `energy = 0`" (42 R152). -/
def injectedDiag (k : Nat) : Diag := ⟨k, .fin 0, 0⟩

/-- The diagnostics of the bin `k` of the powers `pk` of a window (42 R152). -/
def sampledDiag (cfg : Cfg) (pk : List Rat) (k : Nat) (win : List Cx) : Diag :=
  ⟨k, peakToSecond machineArith cfg.bins pk k, windowEnergy machineArith win⟩

/-- The raw bin and diagnostics of one window (42 R150, R152). -/
def demodWindow (s : State) (win : List Cx) : Diag :=
  if s.cfg.inject then injectedDiag (binOf (win.headD (Config.retiredSample s.sympos)))
  else
    let y := spectrum machineArith s.cfg false s.sync.cfoFrac win
    let pk := intCorrect machineArith s.cfg.bins s.sync.cfoInt y
    sampledDiag s.cfg pk (peak machineArith pk) win

/-- `DEMOD_SYMBOL` (42 R150) of PHASE HDR_DEMOD or PAY_DEMOD, with the phase of its full block. -/
def demodSymbolOp (ph full : Phase) (s : State) : State :=
  match window s s.cfg.wlen s.sympos with
  | none => starve ph s
  | some win =>
    let d := demodWindow s win
    let buf := s.symbuf ++ [d.kHat]
    { s with
      symbuf := buf
      diag := s.diag ++ [d]
      sympos := s.sympos + s.cfg.wlen
      phase := if buf.length = s.blklen then full else s.phase }

/-- The reduced values of the first `w` buffered bins (42 R151). -/
def blockValues (s : State) (w sfApp : Nat) : List Nat :=
  (List.range w).map fun i => symval s.cfg.bins s.cfg.sf sfApp (s.symbuf.getD i (Config.absent i))

/-- One header row: its nibble, unless it is uncorrectable (44 R185). -/
def headerNibble (c : Nat) : Option Nib :=
  match hamDec8 c with
  | (_, .uncorrectable) => none
  | (n, _) => some n

/-- Rows 0 to 3 of the header block in this state, as codewords (44 R182). -/
def headerRows (s : State) : List Nat :=
  let cw := deinterleave (s.cfg.sf - 2) (blockValues s 8 (s.cfg.sf - 2))
  (List.range 4).map fun r => cw.getD r (Config.absent r)

/-- `HEADER_DECODE` (44 R186), its tests in the order of R185. -/
def headerDecodeOp (s : State) : State :=
  match mapO headerNibble (headerRows s) with
  | some [h0, h1, h2, h3] =>
    let f := hdrParse h0 h1 h2
    if hdrChk h0 h1 h2 ≠ h3 then
      headerAborted (raise .headerCrcMismatch { s with hdrf := ⟨f.1, f.2.1, f.2.2, false, false⟩ })
    else if f.2.1.toNat < 1 ∨ 4 < f.2.1.toNat then
      headerAborted (raise .headerFieldInvalid { s with hdrf := ⟨f.1, f.2.1, f.2.2, true, false⟩ })
    else setupPayload { s with hdrf := ⟨f.1, f.2.1, f.2.2, true, true⟩ }
  | _ => headerAborted (raise .hammingUncorrectable { s with hdrf := .reset })

/-- The rows of a payload block decoded onto `nib` until it holds `need` nibbles, with the count of uncorrectable rows (45 R193). -/
def payloadRows (cr need : Nat) : List Nat → List Nib → Nat → List Nib × Nat
  | [], nib, unc => (nib, unc)
  | c :: cs, nib, unc =>
    if nib.length = need then (nib, unc)
    else payloadRows cr need cs (nib ++ [(hamDec c cr).1]) (if (hamDec c cr).2 = .uncorrectable then unc + 1 else unc)

/-- `PAYLOAD_BLOCK_DECODE` (45 R193). -/
def payloadBlockOp (s : State) : State :=
  let cr := s.hdrf.codingRate.toNat
  let cw := deinterleave s.cfg.sfAppPay (blockValues s (cr + 4) s.cfg.sfAppPay)
  let r := payloadRows cr s.need cw s.nib s.hamUnc
  let t := if s.hamUnc < r.2 then raise .payloadHammingUncorrectable s else s
  { t with
    nib := r.1
    hamUnc := r.2
    symbuf := []
    phase := if r.1.length < s.need then .payDemod else .dewhiten }

/-- `DEWHITEN` (46 R203): only the first `payload_length` bytes. DESIGN CHOICE (log 14): run as a row where there are fewer bytes,
it whitens those there are and LFSR still steps `payload_length` bytes. -/
def dewhitenOp (s : State) : State :=
  let r := whiten s.hdrf.payloadLength.toNat 0x1FF (nib2byte s.nib (s.need / 2))
  { s with bytes := r.1, lfsr := r.2, phase := .crc }

/-- `CRC_CHECK` (47 R208). DESIGN CHOICE (log 14): run as a row where BYTES is shorter than the rule reads, a missing byte of the
payload or of the CRC is a free value. -/
def crcCheckOp (s : State) : State :=
  let len := s.hdrf.payloadLength.toNat
  if s.hdrf.hasCrc then
    let rx := crcRxOf s.bytes len
    let own := loraCrc (firstBytes s.bytes len)
    let t := if rx = own then s else raise .payloadCrcMismatch s
    { t with crcRx := rx, crcCalc := own, crcChecked := true, crcOk := decide (rx = own), phase := .emit }
  else { s with crcRx := 0, crcCalc := 0, crcChecked := false, crcOk := true, phase := .emit }

/-- The Frame record of the frame in progress (30_encoding R93, 48 R233). -/
def currentFrame (s : State) : Frame where
  payloadLength := s.hdrf.payloadLength
  codingRate := s.hdrf.codingRate
  hasCrc := s.hdrf.hasCrc
  headerCrcOk := s.hdrf.headerCrcOk
  crcOk := s.crcOk
  crcChecked := s.crcChecked
  implicit := s.cfg.implicit
  hamUnc := s.hamUnc
  payloadBytes := s.bytes
  cfoInt := s.sync.cfoInt
  cfoFrac := s.sync.cfoFrac
  sto := s.sync.sto
  snrDb := s.sync.snrDb
  hdrStart := s.hdrStart
  diag := s.diag

/-- `EMIT_FRAME` (48 R233): it holds while the FIFO is full. -/
def emitFrameOp (s : State) : State :=
  if fifoFull s then s
  else
    toNextSearch (unlock
      { s with
        fifo := s.fifo ++ [currentFrame s]
        frameCount := s.frameCount + 1
        p := s.sympos
        hdrf := { s.hdrf with valid := false } })

/-- The CORE step (48 R223): the operation that `PHASE` selects, which holds or takes its end-of-stream action by itself. -/
def coreStepOp (s : State) : State :=
  match s.phase with
  | .idle => s
  | .search => if s.cfg.inject then injectSearchOp s else preambleSearchOp s
  | .sync => syncMatchOp s
  | .hdrDemod => demodSymbolOp .hdrDemod .hdrDecode s
  | .hdrDecode => headerDecodeOp s
  | .payDemod => demodSymbolOp .payDemod .payDecode s
  | .payDecode => payloadBlockOp s
  | .dewhiten => dewhitenOp s
  | .crc => crcCheckOp s
  | .emit => emitFrameOp s
  | .done => s

/-- The operation of `PHASE` is starved in this state (48 R231). -/
def starved (s : State) : Bool :=
  match s.phase with
  | .search => if s.cfg.inject then decide (s.avail ≤ s.p) else (searchResult s).isNone
  | .sync => (syncResult s).isNone
  | .hdrDemod | .payDemod => decide (s.avail < s.sympos + s.cfg.wlen)
  | _ => false

/-! ### Host operations -/

/-- The entry one beat gives and whether a word of it was not finite (48 R216, 20_memory R67, R79). -/
def beatEntry (s : State) (b : Beat) : Cx × Bool :=
  if s.cfg.inject then (⟨(((b.extractLsb' 0 16).toNat % s.cfg.bins : Nat) : Rat), 0⟩, false)
  else
    let re := f32 (b.extractLsb' 0 32)
    let im := f32 (b.extractLsb' 32 32)
    (⟨re.1, im.1⟩, re.2 || im.2)

/-- SAMPLE_IN is not ready: a beat would be accepted but for the full store (48 R216, 20_memory R65). -/
def notReady (s : State) : Bool := running s && !s.eos && storeFull s

/-- One beat on SAMPLE_IN (48 R216). It raises by 60_exceptions R262, so LAST_ERR at DONE depends on where a non-finite beat falls
among the CORE's errors: 20_memory R75 is read without LAST_ERR. DESIGN CHOICE (log 35). -/
def inBeat (b : Beat) (s : State) : State :=
  if !running s || s.eos then raise .commandInvalid s
  else if storeFull s then s
  else
    let t := appendSample (beatEntry s b).1 s
    if (beatEntry s b).2 then raise .nonFiniteSample t else t

/-- `EOS` (48 R218). -/
def eosOp (s : State) : State := if running s then { s with eos := true } else raise .commandInvalid s

/-- Everything an accepted START clears and writes (48 R221). -/
def startRun (s : State) : State :=
  { s with
    err := 0
    lastErr := 0
    cfg := freeze s.csr
    store := []
    avail := 0
    eos := false
    p := 0
    sympos := 0
    hdrStart := 0
    sync := .reset
    hdrf := .reset
    symbuf := []
    blklen := 0
    diag := []
    nib := []
    need := 0
    hamUnc := 0
    bytes := []
    crcRx := 0
    crcCalc := 0
    crcOk := false
    crcChecked := false
    frameCount := 0
    notfoundCount := 0
    abortCount := 0
    phase := .search }

/-- `START` (48 R221): running is tested before validity (60 R265). -/
def startOp (s : State) : State :=
  if running s then raise .commandInvalid s
  else if configOk s.csr then startRun s
  else raise .configInvalid s

/-- `POP` (48 R222): the oldest record leaves the FIFO and its words are delivered. -/
def popOp (s : State) : State :=
  match s.fifo with
  | [] => { raise .commandInvalid s with frameOut := [] }
  | f :: rest => { s with fifo := rest, frameOut := frameWords f }

/-- `RESET` (48 R219, 70 R280): every element of the state tuple at its reset value. The model's own fields are not elements of
the tuple and stay (log 15). -/
def resetOp (s : State) : State :=
  { State.reset with
    inbox := s.inbox
    rdata := s.rdata
    frameOut := s.frameOut
    call := s.call
    ret := s.ret
    inst := s.inst }

/-- The command whose code is written to CTRL (30_encoding R96). -/
def command (code : BitVec 4) (s : State) : State :=
  match code.toNat with
  | 0 => s
  | 1 => startOp s
  | 2 => eosOp s
  | 3 => popOp s
  | 15 => resetOp s
  | _ => raise .commandInvalid s

end Sys2Proof.Machine
end

