-- ==== Sys2Proof/Machine/Operands.lean ====
section
/-! DEFINITION. The operand forms: the CSR space (10_state R21 to R45), register by register, and the call frame of a function
run as a row (log 6). -/

namespace Sys2Proof.Machine

/-! ### Read views -/

/-- `STATUS` (R23, 48 R231). -/
def statusView (s : State) : Word32 :=
  BitVec.ofNat 32 s.phase.code
    ||| flagBit (running s) 4
    ||| flagBit s.sync.locked 5
    ||| flagBit (running s && !s.eos && starved s) 6
    ||| flagBit (decide (s.fifo ≠ [])) 7
    ||| flagBit s.eos 8
    ||| flagBit (decide (s.phase = .emit) && fifoFull s) 9
    ||| flagBit (configOk s.csr) 10

/-- `HDR` (R41). -/
def hdrView (h : Hdrf) : Word32 :=
  h.payloadLength.setWidth 32 ||| (h.codingRate.setWidth 32 <<< 8) ||| flagBit h.hasCrc 11 ||| flagBit h.headerCrcOk 12
    ||| flagBit h.valid 13

/-- Bits 31:0 of a cursor (R40, R42). -/
def loHalf (n : Nat) : Word32 := BitVec.ofNat 32 n

/-- Bits 63:32 of a cursor. -/
def hiHalf (n : Nat) : Word32 := BitVec.ofNat 32 (n / 2 ^ 32)

/-- What a read of register `n` returns (R21 to R44): 0 for the write-only CTRL and for a number that no register has. -/
def csrView (n : Nat) (s : State) : Word32 :=
  match n with
  | 0x01 => statusView s
  | 0x02 => s.err
  | 0x03 => s.lastErr.setWidth 32
  | 0x04 => s.csr.sf.setWidth 32
  | 0x05 => s.csr.bw
  | 0x06 => s.csr.fs
  | 0x07 => s.csr.cr.setWidth 32
  | 0x08 => s.csr.syncWord.setWidth 32
  | 0x09 => s.csr.mode.setWidth 32
  | 0x0A => s.csr.payloadLen.setWidth 32
  | 0x0B => s.csr.ldroMode.setWidth 32
  | 0x0C => s.csr.nPreamble.setWidth 32
  | 0x0D => s.csr.searchWin.setWidth 32
  | 0x0E => s.csr.cfoMax.setWidth 32
  | 0x0F => s.csr.frameLimit
  | 0x10 => s.csr.attemptLimit
  | 0x11 => BitVec.ofInt 32 s.sync.cfoInt
  | 0x12 => toF32 s.sync.cfoFrac
  | 0x13 => BitVec.ofNat 32 s.sync.sto
  | 0x14 => extF32 s.sync.snrDb
  | 0x15 => loHalf s.hdrStart
  | 0x16 => hiHalf s.hdrStart
  | 0x17 => hdrView s.hdrf
  | 0x18 => loHalf (retire s)
  | 0x19 => hiHalf (retire s)
  | 0x1A => loHalf s.avail
  | 0x1B => hiHalf s.avail
  | 0x1C => BitVec.ofNat 32 s.frameCount
  | 0x1D => BitVec.ofNat 32 s.notfoundCount
  | 0x1E => BitVec.ofNat 32 s.abortCount
  | 0x1F => BitVec.ofNat 32 s.fifo.length
  | _ => 0

/-- `RD n` (R21): the view, without side effect; above `0x1F` it reads 0 with CommandInvalid. -/
def csrRead (n : Nat) (s : State) : State :=
  if n ≤ 0x1F then { s with rdata := csrView n s } else { raise .commandInvalid s with rdata := 0 }

/-! ### Writes -/

/-- The RW registers after a write of `v` to number `n`; bits beyond the register's are ignored (R21, R26 to R38). -/
def csrSet (n : Nat) (v : Word32) (c : Csr) : Csr :=
  match n with
  | 0x04 => { c with sf := v.setWidth 4 }
  | 0x05 => { c with bw := v }
  | 0x06 => { c with fs := v }
  | 0x07 => { c with cr := v.setWidth 3 }
  | 0x08 => { c with syncWord := v.setWidth 17 }
  | 0x09 => { c with mode := v.setWidth 4 }
  | 0x0A => { c with payloadLen := v.setWidth 8 }
  | 0x0B => { c with ldroMode := v.setWidth 2 }
  | 0x0C => { c with nPreamble := v.setWidth 16 }
  | 0x0D => { c with searchWin := v.setWidth 16 }
  | 0x0E => { c with cfoMax := v.setWidth 16 }
  | 0x0F => { c with frameLimit := v }
  | 0x10 => { c with attemptLimit := v }
  | _ => c

/-- `WR n, v` (R21): CTRL executes the command, an RW register is written in IDLE and DONE only, anything else is refused. -/
def csrWrite (n : Nat) (v : Word32) (s : State) : State :=
  if n = 0 then command (v.extractLsb' 0 4) s
  else if 0x04 ≤ n ∧ n ≤ 0x10 then
    if running s then raise .commandInvalid s else { s with csr := csrSet n v s.csr }
  else raise .commandInvalid s

/-- One access to register `n`. -/
def csrAccess (n : Nat) (a : CsrAccess) (s : State) : State :=
  match a with
  | .rd => csrRead n s
  | .wr v => csrWrite n v s

/-! ### Functions run as rows -/

/-- The state after a function returned `r` (log 6). -/
def returning (r : Ret) (s : State) : State := { s with ret := r }

/-- A function that reads samples: it returns, or the operation of `PHASE` that called it is starved (20_memory R64; log 17). -/
def returningIf {α : Type} (o : Option α) (f : α → Ret) (s : State) : State :=
  match o with
  | none => starve s.phase s
  | some a => returning (f a) s

/-- A nibble operand. -/
def nibArg (n : Nat) : Nib := BitVec.ofNat 4 n

/-- A list of byte operands. -/
def byteArgs (l : List Nat) : List Byte := l.map (BitVec.ofNat 8)

/-- A list of nibble operands. -/
def nibArgs (l : List Nat) : List Nib := l.map (BitVec.ofNat 4)

end Sys2Proof.Machine
end

