-- ==== Sys2Proof/Machine/CsrRows.lean ====
section
/-! DEFINITION. The meanings of the CSR rows: an access, read or write, to the register of that number (10_state R21 to R45). -/

namespace Sys2Proof.Machine

/-- `CTRL`, number 0x00, write only (R22). -/
def execCsrCtrl (a : CsrAccess) (s : State) : Result := .next (csrAccess 0x00 a s)

/-- `STATUS`, number 0x01, read only (R23). -/
def execCsrStatus (a : CsrAccess) (s : State) : Result := .next (csrAccess 0x01 a s)

/-- `ERR`, number 0x02, read only (R24). -/
def execCsrErr (a : CsrAccess) (s : State) : Result := .next (csrAccess 0x02 a s)

/-- `LAST_ERR`, number 0x03, read only (R25). -/
def execCsrLastErr (a : CsrAccess) (s : State) : Result := .next (csrAccess 0x03 a s)

/-- `SF`, number 0x04, RW (R26). -/
def execCsrSf (a : CsrAccess) (s : State) : Result := .next (csrAccess 0x04 a s)

/-- `BW`, number 0x05, RW (R27). -/
def execCsrBw (a : CsrAccess) (s : State) : Result := .next (csrAccess 0x05 a s)

/-- `FS`, number 0x06, RW (R28). -/
def execCsrFs (a : CsrAccess) (s : State) : Result := .next (csrAccess 0x06 a s)

/-- `CR`, number 0x07, RW (R29). -/
def execCsrCr (a : CsrAccess) (s : State) : Result := .next (csrAccess 0x07 a s)

/-- `SYNC_WORD`, number 0x08, RW (R30). -/
def execCsrSyncWord (a : CsrAccess) (s : State) : Result := .next (csrAccess 0x08 a s)

/-- `MODE`, number 0x09, RW (R31). -/
def execCsrMode (a : CsrAccess) (s : State) : Result := .next (csrAccess 0x09 a s)

/-- `PAYLOAD_LEN`, number 0x0A, RW (R32). -/
def execCsrPayloadLen (a : CsrAccess) (s : State) : Result := .next (csrAccess 0x0A a s)

/-- `LDRO_MODE`, number 0x0B, RW (R33). -/
def execCsrLdroMode (a : CsrAccess) (s : State) : Result := .next (csrAccess 0x0B a s)

/-- `N_PREAMBLE`, number 0x0C, RW (R34). -/
def execCsrNPreamble (a : CsrAccess) (s : State) : Result := .next (csrAccess 0x0C a s)

/-- `SEARCH_WIN`, number 0x0D, RW (R35). -/
def execCsrSearchWin (a : CsrAccess) (s : State) : Result := .next (csrAccess 0x0D a s)

/-- `CFO_MAX`, number 0x0E, RW (R36). -/
def execCsrCfoMax (a : CsrAccess) (s : State) : Result := .next (csrAccess 0x0E a s)

/-- `FRAME_LIMIT`, number 0x0F, RW (R37). -/
def execCsrFrameLimit (a : CsrAccess) (s : State) : Result := .next (csrAccess 0x0F a s)

/-- `ATTEMPT_LIMIT`, number 0x10, RW (R38). -/
def execCsrAttemptLimit (a : CsrAccess) (s : State) : Result := .next (csrAccess 0x10 a s)

/-- `SYNC_CFO_INT`, number 0x11, read only (R39). -/
def execCsrSyncCfoInt (a : CsrAccess) (s : State) : Result := .next (csrAccess 0x11 a s)

/-- `SYNC_CFO_FRAC`, number 0x12, read only (R39). -/
def execCsrSyncCfoFrac (a : CsrAccess) (s : State) : Result := .next (csrAccess 0x12 a s)

/-- `SYNC_STO`, number 0x13, read only (R39). -/
def execCsrSyncSto (a : CsrAccess) (s : State) : Result := .next (csrAccess 0x13 a s)

/-- `SYNC_SNR_DB`, number 0x14, read only (R39). -/
def execCsrSyncSnrDb (a : CsrAccess) (s : State) : Result := .next (csrAccess 0x14 a s)

/-- `HDR_START_LO`, number 0x15, read only (R40). -/
def execCsrHdrStartLo (a : CsrAccess) (s : State) : Result := .next (csrAccess 0x15 a s)

/-- `HDR_START_HI`, number 0x16, read only (R40). -/
def execCsrHdrStartHi (a : CsrAccess) (s : State) : Result := .next (csrAccess 0x16 a s)

/-- `HDR`, number 0x17, read only (R41). -/
def execCsrHdr (a : CsrAccess) (s : State) : Result := .next (csrAccess 0x17 a s)

/-- `POS_LO`, number 0x18, read only (R42). -/
def execCsrPosLo (a : CsrAccess) (s : State) : Result := .next (csrAccess 0x18 a s)

/-- `POS_HI`, number 0x19, read only (R42). -/
def execCsrPosHi (a : CsrAccess) (s : State) : Result := .next (csrAccess 0x19 a s)

/-- `AVAIL_LO`, number 0x1A, read only (R42). -/
def execCsrAvailLo (a : CsrAccess) (s : State) : Result := .next (csrAccess 0x1A a s)

/-- `AVAIL_HI`, number 0x1B, read only (R42). -/
def execCsrAvailHi (a : CsrAccess) (s : State) : Result := .next (csrAccess 0x1B a s)

/-- `FRAME_COUNT`, number 0x1C, read only (R43). -/
def execCsrFrameCount (a : CsrAccess) (s : State) : Result := .next (csrAccess 0x1C a s)

/-- `NOTFOUND_COUNT`, number 0x1D, read only (R43). -/
def execCsrNotfoundCount (a : CsrAccess) (s : State) : Result := .next (csrAccess 0x1D a s)

/-- `ABORT_COUNT`, number 0x1E, read only (R43). -/
def execCsrAbortCount (a : CsrAccess) (s : State) : Result := .next (csrAccess 0x1E a s)

/-- `FRAME_LEVEL`, number 0x1F, read only (R44). -/
def execCsrFrameLevel (a : CsrAccess) (s : State) : Result := .next (csrAccess 0x1F a s)

/-- A number above `0x1F` (R21): a read returns 0, a write is ignored, CommandInvalid. -/
def execCsrUnmapped (n : Byte) (a : CsrAccess) (s : State) : Result := .next (csrAccess n.toNat a s)

end Sys2Proof.Machine
end

