-- ==== Sys2Proof/Machine/Functions.lean ====
section
/-! DEFINITION. The meanings of the FN and HAM rows. A pure function takes its operands from CFG and the registers its rule names,
else from the call frame, and returns its value in `ret` (log 6); an action of the sequencer acts on the state (log 28); neither
tests CFG.inject, but for DIAGNOSTICS, or `PHASE`, but where starved (log 16). A
function that reads samples and is starved acts as the operation of `PHASE` starved (log 17). -/

namespace Sys2Proof.Machine

/-- CHIRP_UP (40 R110), of CFG.sf. -/
def execChirpUp (s : State) : Result := .next (returning (.cplx (chirpUp machineArith s.cfg.bins)) s)

/-- CHIRP_DOWN (40 R111), of CFG.sf. -/
def execChirpDown (s : State) : Result := .next (returning (.cplx (chirpDown machineArith s.cfg.bins)) s)

/-- CHIRP_REF_OS (40 R112), of CFG.sf and CFG.os: both tables. -/
def execChirpRefOs (s : State) : Result := .next (returning (.tables (refUp machineArith s.cfg.bins s.cfg.os) (refDown machineArith s.cfg.bins s.cfg.os)) s)

/-- F32_TO_NUM (20 R67). Operand: word n0. -/
def execF32ToNum (s : State) : Result := .next (returning (.float (f32 (BitVec.ofNat 32 s.call.n0)).1 (f32 (BitVec.ofNat 32 s.call.n0)).2) s)

/-- CIRCDIST (00 R15). Operands: bins z0, z1. -/
def execCircdist (s : State) : Result := .next (returning (.nat (circdist s.cfg.bins s.call.z0 s.call.z1)) s)

/-- ARGMAX_PEAK (00 R17). Operand: reals; of no values, a free index (log 32). -/
def execArgmaxPeak (s : State) : Result := .next (returning (.nat (peak machineArith s.call.reals)) s)

/-- STABLE (41 R123). Operands: PW = powers, b = nats, as many windows as `b` has peaks (log 34). -/
def execStable (s : State) : Result := .next (returning (.bit (stable machineArith s.cfg.bins s.call.powers s.call.nats)) s)

/-- FRAC_CFO (41 R124). Operands: Y = spectra, as many windows as are given (log 34), bb = n0. -/
def execFracCfo (s : State) : Result := .next (returning (.real (fracCfo machineArith s.call.spectra s.call.n0)) s)

/-- SNR_EST (41 R125). Operands: PC = reals, b2 = n0. -/
def execSnrEst (s : State) : Result := .next (returning (.ext (snrEst machineArith s.cfg.bins s.call.reals s.call.n0)) s)

/-- COARSE_ALIGN (41 R126). Operands: q = n0, b2 = n1. -/
def execCoarseAlign (s : State) : Result := .next (returning (.nat (coarseAlign s.cfg.bins s.cfg.os s.call.n0 s.call.n1)) s)

/-- FINE_TIMING (41 R127). Operands: q2 = n0, cf = real. -/
def execFineTiming (s : State) : Result := .next (returningIf (fineTiming machineArith s.cfg (window s s.cfg.ns) s.call.n0 s.call.real) .int s)

/-- SYNC_SYMBOLS (30 R92), of CFG: S0 and S1. -/
def execSyncSymbols (s : State) : Result := .next (returning (.nats [(syncSymbolsOf s.cfg.bins s.cfg.v0 s.cfg.v1 s.cfg.two).1, (syncSymbolsOf s.cfg.bins s.cfg.v0 s.cfg.v1 s.cfg.two).2]) s)

/-- FIND_DOWNCHIRP (41 R130). Operands: q2 = z0, cf = real. -/
def execFindDownchirp (s : State) : Result := .next (returningIf (findDownchirp machineArith s.cfg (window s s.cfg.ns) s.call.z0 s.call.real) .optNat s)

/-- SYNC_WORD_MATCH (41 R129, R131). Operands: g0 = n0, g1 = n1. -/
def execSyncWordMatch (s : State) : Result := .next
    (let e0 := syncOffset s.cfg.bins s.call.n0 s.cfg.s0
     let e1 := syncOffset s.cfg.bins s.call.n1 s.cfg.s1
     returning (.syncMatch e0 e1 (syncWordMatch s.cfg.bins e0 e1)) s)

/-- CFO_INT (41 R132). Operand: e0 = z0. -/
def execCfoInt (s : State) : Result := .next (returning (.int (cfoIntOf s.call.z0)) s)

/-- CFO_RANGE_CHECK (41 R133). Operands: cfo_int = z0, cf = real; true where the bound is exceeded. -/
def execCfoRangeCheck (s : State) : Result := .next (returning (.bit (cfoOutOfRange machineArith s.cfg.cfoMax s.call.z0 s.call.real)) s)

/-- HDR_START_STO (41 R134). Operands: a0 = z1, cfo_int = z0. -/
def execHdrStartSto (s : State) : Result := .next (returning (.hdrStart (hdrStartOf s.cfg s.call.z1 s.call.z0) (stoOf s.cfg (hdrStartOf s.cfg s.call.z1 s.call.z0) s.p)) s)

/-- SYNC_FAIL (41 R135), the action. -/
def execSyncFail (s : State) : Result := .next (syncFailed s)

/-- DECHIRP_FFT (42 R141). Operands: a = n0, conj_in = flag, cf = real. -/
def execDechirpFft (s : State) : Result := .next (returningIf (specAt machineArith s.cfg (window s s.cfg.ns) s.call.flag s.call.real s.call.n0) .cplx s)

/-- DECIMATE (42 R142). Operand: z = cplx. -/
def execDecimate (s : State) : Result := .next (returning (.cplx (decimate machineArith s.cfg.decimSub s.cfg.bins s.cfg.os s.call.cplx)) s)

/-- DFT (42 R143). Operand: y = cplx. -/
def execDft (s : State) : Result := .next (returning (.cplx (dft machineArith s.cfg.bins s.call.cplx)) s)

/-- CFO_FRAC_CORRECT (42 R144). Operands: the window cplx, cf = real. -/
def execCfoFracCorrect (s : State) : Result := .next (returning (.cplx (fracCorrect machineArith s.cfg.ns s.call.real s.call.cplx)) s)

/-- CFO_INT_CORRECT (42 R145). Operands: Y = cplx, cfo_int = z0. -/
def execCfoIntCorrect (s : State) : Result := .next (returning (.reals (intCorrect machineArith s.cfg.bins s.call.z0 s.call.cplx)) s)

/-- PEAK (42 R146). Operand: PK = reals; of no values, a free index (log 32). -/
def execPeak (s : State) : Result := .next (returning (.nat (peak machineArith s.call.reals)) s)

/-- BIN2SYM (42 R147). Operand: k_raw = n0. -/
def execBin2sym (s : State) : Result := .next (returning (.nat (bin2sym s.cfg.bins s.call.n0)) s)

/-- GRAY_ENC (42 R148). Operand: symbol n0. -/
def execGrayEnc (s : State) : Result := .next (returning (.nat (grayEnc s.call.n0)) s)

/-- GRAY_DEC (42 R149). Operand: g = n0. -/
def execGrayDec (s : State) : Result := .next (returning (.nat (grayDec s.cfg.sf s.call.n0)) s)

/-- SYM_REDUCE (30 R84). Operands: g = n0, sf_app = n1. -/
def execSymReduce (s : State) : Result := .next (returning (.nat (symReduce s.cfg.sf s.call.n1 s.call.n0)) s)

/-- SYMVAL (42 R151). Operands: k_raw = n0, sf_app = n1. -/
def execSymval (s : State) : Result := .next (returning (.nat (symval s.cfg.bins s.cfg.sf s.call.n1 s.call.n0)) s)

/-- DIAGNOSTICS (42 R152). Operands: PK = reals, k = n0, a = n1. In INJECT mode no sample is read and both values are 0. -/
def execDiagnostics (s : State) : Result := .next
    (if s.cfg.inject then returning (.diag (injectedDiag s.call.n0)) s
     else returningIf (window s s.cfg.ns s.call.n1) (fun win => .diag (sampledDiag s.cfg s.call.reals s.call.n0 win)) s)

/-- INTER_BIN (43 R161). Operands: v = nats, sf_app = n0. -/
def execInterBin (s : State) : Result := .next (returning (.bits (interBin s.call.n0 s.call.nats)) s)

/-- DEINTERLEAVE (43 R162, R163). Operands: v = nats, sf_app = n0. -/
def execDeinterleave (s : State) : Result := .next (returning (.nats (deinterleave s.call.n0 s.call.nats)) s)

/-- ROW_TO_CODEWORD (43 R163). Operand: the row nats, its bits from symbol 0 on. -/
def execRowToCodeword (s : State) : Result := .next (returning (.nat (ofBits (s.call.nats.map fun b => decide (b ≠ 0)))) s)

/-- INTERLEAVE (43 R164). Operands: the rows nats, W = n0. -/
def execInterleave (s : State) : Result := .next (returning (.nats (interleave s.call.n0 s.call.nats)) s)

/-- HAM_ENC (43 R165). Operands: nibble n0, cr = n1. -/
def execHamEnc (s : State) : Result := .next (returning (.nat (hamEnc s.call.n1 (nibArg s.call.n0))) s)

/-- HAM_DEC (43 R171). Operands: c = n0, cr = n1. -/
def execHamDec (s : State) : Result := .next (returning (.ham (hamDec s.call.n0 s.call.n1).1 (hamDec s.call.n0 s.call.n1).2) s)

/-- NIB2BYTE (43 R172). Operand: the nibbles nats. -/
def execNib2byte (s : State) : Result := .next (returning (.bytes (nib2byte (nibArgs s.call.nats) (s.call.nats.length / 2))) s)

/-- HDR_PARSE (44 R183). Operands: h0 = n0, h1 = n1, h2 = n2. -/
def execHdrParse (s : State) : Result := .next
    (let f := hdrParse (nibArg s.call.n0) (nibArg s.call.n1) (nibArg s.call.n2)
     returning (.header f.1 f.2.1 f.2.2) s)

/-- HDR_CHK (44 R184). Operands: h0 = n0, h1 = n1, h2 = n2. -/
def execHdrChk (s : State) : Result := .next (returning (.nat (hdrChk (nibArg s.call.n0) (nibArg s.call.n1) (nibArg s.call.n2)).toNat) s)

/-- NSYM (30 R89). Operands: L = n0, cr = n1, has_crc = flag; CFG gives sf_app_pay and implicit: NEED, nblk, NSYM. -/
def execNsym (s : State) : Result := .next
    (let need := needOf s.call.n0 s.call.flag
     let nblk := nblkOf need s.cfg.sfAppPay
     returning (.symbols need nblk (nsymOf s.cfg.implicit nblk s.call.n1)) s)

/-- PN9_STEP (46 R200), on LFSR. -/
def execPn9Step (s : State) : Result := .next ({ s with ret := .bit (pn9Step s.lfsr).1, lfsr := (pn9Step s.lfsr).2 })

/-- PN9_BYTE (46 R201), on LFSR. -/
def execPn9Byte (s : State) : Result := .next ({ s with ret := .bytes [(pn9Byte s.lfsr).1], lfsr := (pn9Byte s.lfsr).2 })

/-- CRC16 (47 R205). Operand: the bytes nats. -/
def execCrc16 (s : State) : Result := .next (returning (.crc (crc16 (byteArgs s.call.nats))) s)

/-- LORA_CRC (47 R206). Operand: the bytes nats. -/
def execLoraCrc (s : State) : Result := .next (returning (.crc (loraCrc (byteArgs s.call.nats))) s)

/-- CRC_RX (47 R207), of BYTES and HDRF. -/
def execCrcRx (s : State) : Result := .next (returning (.crc (crcRxOf s.bytes s.hdrf.payloadLength.toNat)) s)

/-- CONFIG_VALID (48 R220), of the registers. -/
def execConfigValid (s : State) : Result := .next (returning (.bit (configOk s.csr)) s)

/-- LDRO_AUTO (00 R10). Operands: sf = n0, bw = n1. -/
def execLdroAuto (s : State) : Result := .next (returning (.bit (ldroAutoOn (2 ^ s.call.n0) s.call.n1)) s)

/-- LOCK (48 R225), the action. Operands: cfo_int = z0, cfo_frac = real, sto = n0, snr_db = snr, hdr_start = n1. -/
def execLock (s : State) : Result := .next (lockOn s.call.z0 s.call.real s.call.n0 s.call.snr s.call.n1 s)

/-- PAYLOAD_SETUP (48 R226), the action. -/
def execPayloadSetup (s : State) : Result := .next (setupPayload s)

/-- HEADER_ABORT (48 R227), the action. -/
def execHeaderAbort (s : State) : Result := .next (headerAborted s)

/-- NEXT_SEARCH (48 R236): it returns a phase. -/
def execNextSearch (s : State) : Result := .next (returning (.phase (nextPhase s)) s)

/-- RAISE (60 R262), the action. Operand: the error kind err. -/
def execRaise (s : State) : Result := .next (raise s.call.err s)

/-- FRAME_WORDS (30 R94). Operand: the record frame. -/
def execFrameWords (s : State) : Result := .next (returning (.words (frameWords s.call.frame)) s)

/-- HAM_DEC5 (43 R170). Operand: c = n0. -/
def execHamDec5 (s : State) : Result := .next (returning (.ham (hamDec5 s.call.n0).1 (hamDec5 s.call.n0).2) s)

/-- HAM_DEC6 (43 R169). Operand: c = n0. -/
def execHamDec6 (s : State) : Result := .next (returning (.ham (hamDec6 s.call.n0).1 (hamDec6 s.call.n0).2) s)

/-- HAM_DEC7 (43 R168). Operand: c = n0. -/
def execHamDec7 (s : State) : Result := .next (returning (.ham (hamDec7 s.call.n0).1 (hamDec7 s.call.n0).2) s)

/-- HAM_DEC8 (43 R167). Operand: c = n0. -/
def execHamDec8 (s : State) : Result := .next (returning (.ham (hamDec8 s.call.n0).1 (hamDec8 s.call.n0).2) s)

end Sys2Proof.Machine
end

