-- ==== Sys2Proof/Machine/HostTxn.lean ====
section
/-! DEFINITION. The meanings of the host transactions (TXN) and of the commands (CMD): 10_state R21, 30_encoding R95 and R96, 48
R216 to R222. The ignored bits of a command word have no effect. -/

namespace Sys2Proof.Machine

/-- `CSR.W n v` (10_state R21). -/
def execCsrW (n : Byte) (v : Word32) (s : State) : Result := .next (csrWrite n.toNat v s)

/-- `CSR.R n` (10_state R21). -/
def execCsrR (n : Byte) (s : State) : Result := .next (csrRead n.toNat s)

/-- `PUSH` (48 R216): one beat on SAMPLE_IN; CFG.inject says what the beat carries (log 20). -/
def execPush (b : Beat) (s : State) : Result := .next (inBeat b s)

/-- `PUSHSYM` (48 R216, 20_memory R79): one beat on SAMPLE_IN; CFG.inject says what the beat carries (log 20). -/
def execPushsym (b : Beat) (s : State) : Result := .next (inBeat b s)

/-- `OUT.POP` (48 R222). -/
def execOutPop (s : State) : Result := .next (popOp s)

/-- `NOP` (48 R217): no effect, no error. -/
def execNop (_ign : BitVec 28) (s : State) : Result := .next s

/-- `START` (48 R221). -/
def execStart (_ign : BitVec 28) (s : State) : Result := .next (startOp s)

/-- `EOS` (48 R218). -/
def execEos (_ign : BitVec 28) (s : State) : Result := .next (eosOp s)

/-- `POP` (48 R222): "same effect" as the OUT.POP transaction. -/
def execPop (_ign : BitVec 28) (s : State) : Result := .next (popOp s)

/-- Reserved command 4 (48 R219): CommandInvalid, no other effect. -/
def execCmdReserved4 (_ign : BitVec 28) (s : State) : Result := .next (raise .commandInvalid s)

/-- Reserved command 5 (48 R219): CommandInvalid, no other effect. -/
def execCmdReserved5 (_ign : BitVec 28) (s : State) : Result := .next (raise .commandInvalid s)

/-- Reserved command 6 (48 R219): CommandInvalid, no other effect. -/
def execCmdReserved6 (_ign : BitVec 28) (s : State) : Result := .next (raise .commandInvalid s)

/-- Reserved command 7 (48 R219): CommandInvalid, no other effect. -/
def execCmdReserved7 (_ign : BitVec 28) (s : State) : Result := .next (raise .commandInvalid s)

/-- Reserved command 8 (48 R219): CommandInvalid, no other effect. -/
def execCmdReserved8 (_ign : BitVec 28) (s : State) : Result := .next (raise .commandInvalid s)

/-- Reserved command 9 (48 R219): CommandInvalid, no other effect. -/
def execCmdReserved9 (_ign : BitVec 28) (s : State) : Result := .next (raise .commandInvalid s)

/-- Reserved command 10 (48 R219): CommandInvalid, no other effect. -/
def execCmdReserved10 (_ign : BitVec 28) (s : State) : Result := .next (raise .commandInvalid s)

/-- Reserved command 11 (48 R219): CommandInvalid, no other effect. -/
def execCmdReserved11 (_ign : BitVec 28) (s : State) : Result := .next (raise .commandInvalid s)

/-- Reserved command 12 (48 R219): CommandInvalid, no other effect. -/
def execCmdReserved12 (_ign : BitVec 28) (s : State) : Result := .next (raise .commandInvalid s)

/-- Reserved command 13 (48 R219): CommandInvalid, no other effect. -/
def execCmdReserved13 (_ign : BitVec 28) (s : State) : Result := .next (raise .commandInvalid s)

/-- Reserved command 14 (48 R219): CommandInvalid, no other effect. -/
def execCmdReserved14 (_ign : BitVec 28) (s : State) : Result := .next (raise .commandInvalid s)

/-- `RESET` (48 R219, 70 R280): legal in every phase, never raises. -/
def execReset (_ign : BitVec 28) (s : State) : Result := .next (resetOp s)

end Sys2Proof.Machine
end

