-- ==== Sys2Proof/Machine/Phases.lean ====
section
/-! DEFINITION. The meanings of the PHASE rows. A row is its operation with its holds and its end-of-stream action.
DESIGN CHOICE (log 16): run as a row it acts whatever `PHASE` and CFG.inject hold, without a test of what the sequencer selects it by;
`CORE_STEP` is the step of 48 R223, which selects by `PHASE` and CFG.inject. -/

namespace Sys2Proof.Machine

/-- IDLE (48 R224): no operation runs. -/
def execIdle (s : State) : Result := .next s

/-- PREAMBLE_SEARCH (41 R121). The sequencer runs it with CFG.inject = 0 only; as a row it acts with 1 too: DESIGN CHOICE (log 16). -/
def execPreambleSearch (s : State) : Result := .next (preambleSearchOp s)

/-- SYNC_MATCH (41 R129). The sequencer runs it with CFG.inject = 0 only; as a row it acts with 1 too: DESIGN CHOICE (log 16). -/
def execSyncMatch (s : State) : Result := .next (syncMatchOp s)

/-- DEMOD_SYMBOL of PHASE HDR_DEMOD (42 R150). -/
def execDemodSymbolHdr (s : State) : Result := .next (demodSymbolOp .hdrDemod .hdrDecode s)

/-- HEADER_DECODE (44 R186). -/
def execHeaderDecode (s : State) : Result := .next (headerDecodeOp s)

/-- DEMOD_SYMBOL of PHASE PAY_DEMOD (42 R150). -/
def execDemodSymbolPay (s : State) : Result := .next (demodSymbolOp .payDemod .payDecode s)

/-- PAYLOAD_BLOCK_DECODE (45 R193). -/
def execPayloadBlockDecode (s : State) : Result := .next (payloadBlockOp s)

/-- DEWHITEN (46 R203). -/
def execDewhiten (s : State) : Result := .next (dewhitenOp s)

/-- CRC_CHECK (47 R208). -/
def execCrcCheck (s : State) : Result := .next (crcCheckOp s)

/-- EMIT_FRAME (48 R233). -/
def execEmitFrame (s : State) : Result := .next (emitFrameOp s)

/-- DONE (48 R224): no operation runs. -/
def execDone (s : State) : Result := .next s

/-- INJECT_SEARCH (48 R240). R240 gives it with CFG.inject = 1 only; as a row it acts with 0 too: DESIGN CHOICE (log 16). -/
def execInjectSearch (s : State) : Result := .next (injectSearchOp s)

/-- CORE_STEP (48 R223): hold, end-of-stream action, or the operation of PHASE. -/
def execCoreStep (s : State) : Result := .next (coreStepOp s)

/-- EOS_ACTION (48 R235): the end-of-stream action of the operation of PHASE. Run as a row it takes the action whether or not that
operation is starved and `EOS = 1`: DESIGN CHOICE (log 30). -/
def execEosAction (s : State) : Result := .next (endOfStream s.phase s)

end Sys2Proof.Machine
end

