-- ==== Sys2Proof/Machine/Dispatch.lean ====
section
/-! DEFINITION. What each instruction does: one arm per constructor, one call per arm. -/

namespace Sys2Proof.Machine

def exec (i : Instr) (s : State) : Host.Outcome State Fault Refusal :=
  match i with
  | .csrW n v => Sys2Proof.Machine.execCsrW n v s
  | .csrR n => Sys2Proof.Machine.execCsrR n s
  | .push b => Sys2Proof.Machine.execPush b s
  | .pushsym b => Sys2Proof.Machine.execPushsym b s
  | .outPop => Sys2Proof.Machine.execOutPop s
  | .nop ign => Sys2Proof.Machine.execNop ign s
  | .start ign => Sys2Proof.Machine.execStart ign s
  | .eos ign => Sys2Proof.Machine.execEos ign s
  | .pop ign => Sys2Proof.Machine.execPop ign s
  | .cmdReserved4 ign => Sys2Proof.Machine.execCmdReserved4 ign s
  | .cmdReserved5 ign => Sys2Proof.Machine.execCmdReserved5 ign s
  | .cmdReserved6 ign => Sys2Proof.Machine.execCmdReserved6 ign s
  | .cmdReserved7 ign => Sys2Proof.Machine.execCmdReserved7 ign s
  | .cmdReserved8 ign => Sys2Proof.Machine.execCmdReserved8 ign s
  | .cmdReserved9 ign => Sys2Proof.Machine.execCmdReserved9 ign s
  | .cmdReserved10 ign => Sys2Proof.Machine.execCmdReserved10 ign s
  | .cmdReserved11 ign => Sys2Proof.Machine.execCmdReserved11 ign s
  | .cmdReserved12 ign => Sys2Proof.Machine.execCmdReserved12 ign s
  | .cmdReserved13 ign => Sys2Proof.Machine.execCmdReserved13 ign s
  | .cmdReserved14 ign => Sys2Proof.Machine.execCmdReserved14 ign s
  | .reset ign => Sys2Proof.Machine.execReset ign s
  | .csrCtrl a => Sys2Proof.Machine.execCsrCtrl a s
  | .csrStatus a => Sys2Proof.Machine.execCsrStatus a s
  | .csrErr a => Sys2Proof.Machine.execCsrErr a s
  | .csrLastErr a => Sys2Proof.Machine.execCsrLastErr a s
  | .csrSf a => Sys2Proof.Machine.execCsrSf a s
  | .csrBw a => Sys2Proof.Machine.execCsrBw a s
  | .csrFs a => Sys2Proof.Machine.execCsrFs a s
  | .csrCr a => Sys2Proof.Machine.execCsrCr a s
  | .csrSyncWord a => Sys2Proof.Machine.execCsrSyncWord a s
  | .csrMode a => Sys2Proof.Machine.execCsrMode a s
  | .csrPayloadLen a => Sys2Proof.Machine.execCsrPayloadLen a s
  | .csrLdroMode a => Sys2Proof.Machine.execCsrLdroMode a s
  | .csrNPreamble a => Sys2Proof.Machine.execCsrNPreamble a s
  | .csrSearchWin a => Sys2Proof.Machine.execCsrSearchWin a s
  | .csrCfoMax a => Sys2Proof.Machine.execCsrCfoMax a s
  | .csrFrameLimit a => Sys2Proof.Machine.execCsrFrameLimit a s
  | .csrAttemptLimit a => Sys2Proof.Machine.execCsrAttemptLimit a s
  | .csrSyncCfoInt a => Sys2Proof.Machine.execCsrSyncCfoInt a s
  | .csrSyncCfoFrac a => Sys2Proof.Machine.execCsrSyncCfoFrac a s
  | .csrSyncSto a => Sys2Proof.Machine.execCsrSyncSto a s
  | .csrSyncSnrDb a => Sys2Proof.Machine.execCsrSyncSnrDb a s
  | .csrHdrStartLo a => Sys2Proof.Machine.execCsrHdrStartLo a s
  | .csrHdrStartHi a => Sys2Proof.Machine.execCsrHdrStartHi a s
  | .csrHdr a => Sys2Proof.Machine.execCsrHdr a s
  | .csrPosLo a => Sys2Proof.Machine.execCsrPosLo a s
  | .csrPosHi a => Sys2Proof.Machine.execCsrPosHi a s
  | .csrAvailLo a => Sys2Proof.Machine.execCsrAvailLo a s
  | .csrAvailHi a => Sys2Proof.Machine.execCsrAvailHi a s
  | .csrFrameCount a => Sys2Proof.Machine.execCsrFrameCount a s
  | .csrNotfoundCount a => Sys2Proof.Machine.execCsrNotfoundCount a s
  | .csrAbortCount a => Sys2Proof.Machine.execCsrAbortCount a s
  | .csrFrameLevel a => Sys2Proof.Machine.execCsrFrameLevel a s
  | .csrUnmapped n a => Sys2Proof.Machine.execCsrUnmapped n a s
  | .idle => Sys2Proof.Machine.execIdle s
  | .preambleSearch => Sys2Proof.Machine.execPreambleSearch s
  | .syncMatch => Sys2Proof.Machine.execSyncMatch s
  | .demodSymbolHdr => Sys2Proof.Machine.execDemodSymbolHdr s
  | .headerDecode => Sys2Proof.Machine.execHeaderDecode s
  | .demodSymbolPay => Sys2Proof.Machine.execDemodSymbolPay s
  | .payloadBlockDecode => Sys2Proof.Machine.execPayloadBlockDecode s
  | .dewhiten => Sys2Proof.Machine.execDewhiten s
  | .crcCheck => Sys2Proof.Machine.execCrcCheck s
  | .emitFrame => Sys2Proof.Machine.execEmitFrame s
  | .done => Sys2Proof.Machine.execDone s
  | .injectSearch => Sys2Proof.Machine.execInjectSearch s
  | .coreStep => Sys2Proof.Machine.execCoreStep s
  | .eosAction => Sys2Proof.Machine.execEosAction s
  | .chirpUp => Sys2Proof.Machine.execChirpUp s
  | .chirpDown => Sys2Proof.Machine.execChirpDown s
  | .chirpRefOs => Sys2Proof.Machine.execChirpRefOs s
  | .f32ToNum => Sys2Proof.Machine.execF32ToNum s
  | .circdist => Sys2Proof.Machine.execCircdist s
  | .argmaxPeak => Sys2Proof.Machine.execArgmaxPeak s
  | .stable => Sys2Proof.Machine.execStable s
  | .fracCfo => Sys2Proof.Machine.execFracCfo s
  | .snrEst => Sys2Proof.Machine.execSnrEst s
  | .coarseAlign => Sys2Proof.Machine.execCoarseAlign s
  | .fineTiming => Sys2Proof.Machine.execFineTiming s
  | .syncSymbols => Sys2Proof.Machine.execSyncSymbols s
  | .findDownchirp => Sys2Proof.Machine.execFindDownchirp s
  | .syncWordMatch => Sys2Proof.Machine.execSyncWordMatch s
  | .cfoInt => Sys2Proof.Machine.execCfoInt s
  | .cfoRangeCheck => Sys2Proof.Machine.execCfoRangeCheck s
  | .hdrStartSto => Sys2Proof.Machine.execHdrStartSto s
  | .syncFail => Sys2Proof.Machine.execSyncFail s
  | .dechirpFft => Sys2Proof.Machine.execDechirpFft s
  | .decimate => Sys2Proof.Machine.execDecimate s
  | .dft => Sys2Proof.Machine.execDft s
  | .cfoFracCorrect => Sys2Proof.Machine.execCfoFracCorrect s
  | .cfoIntCorrect => Sys2Proof.Machine.execCfoIntCorrect s
  | .peak => Sys2Proof.Machine.execPeak s
  | .bin2sym => Sys2Proof.Machine.execBin2sym s
  | .grayEnc => Sys2Proof.Machine.execGrayEnc s
  | .grayDec => Sys2Proof.Machine.execGrayDec s
  | .symReduce => Sys2Proof.Machine.execSymReduce s
  | .symval => Sys2Proof.Machine.execSymval s
  | .diagnostics => Sys2Proof.Machine.execDiagnostics s
  | .interBin => Sys2Proof.Machine.execInterBin s
  | .deinterleave => Sys2Proof.Machine.execDeinterleave s
  | .rowToCodeword => Sys2Proof.Machine.execRowToCodeword s
  | .interleave => Sys2Proof.Machine.execInterleave s
  | .hamEnc => Sys2Proof.Machine.execHamEnc s
  | .hamDec => Sys2Proof.Machine.execHamDec s
  | .nib2byte => Sys2Proof.Machine.execNib2byte s
  | .hdrParse => Sys2Proof.Machine.execHdrParse s
  | .hdrChk => Sys2Proof.Machine.execHdrChk s
  | .nsym => Sys2Proof.Machine.execNsym s
  | .pn9Step => Sys2Proof.Machine.execPn9Step s
  | .pn9Byte => Sys2Proof.Machine.execPn9Byte s
  | .crc16 => Sys2Proof.Machine.execCrc16 s
  | .loraCrc => Sys2Proof.Machine.execLoraCrc s
  | .crcRx => Sys2Proof.Machine.execCrcRx s
  | .configValid => Sys2Proof.Machine.execConfigValid s
  | .ldroAuto => Sys2Proof.Machine.execLdroAuto s
  | .lock => Sys2Proof.Machine.execLock s
  | .payloadSetup => Sys2Proof.Machine.execPayloadSetup s
  | .headerAbort => Sys2Proof.Machine.execHeaderAbort s
  | .nextSearch => Sys2Proof.Machine.execNextSearch s
  | .raise => Sys2Proof.Machine.execRaise s
  | .frameWords => Sys2Proof.Machine.execFrameWords s
  | .hamDec5 => Sys2Proof.Machine.execHamDec5 s
  | .hamDec6 => Sys2Proof.Machine.execHamDec6 s
  | .hamDec7 => Sys2Proof.Machine.execHamDec7 s
  | .hamDec8 => Sys2Proof.Machine.execHamDec8 s

end Sys2Proof.Machine
end

