-- ==== Sys2Proof/Machine/Step.lean ====
section
/-! DEFINITION. One step of the machine (20_memory R72, 48 R223): the host's oldest pending transaction, or a CORE step. -/

namespace Sys2Proof.Machine

/-- The host waits: its next transaction is a beat and SAMPLE_IN is not ready (20_memory R65; log 4). -/
def hostWaits (i : Instr) (s : State) : Bool :=
  match i with
  | .push _ => notReady s
  | .pushsym _ => notReady s
  | _ => false

/-- One step. With nothing pending, or while the host waits, the CORE agent moves (logs 3, 4). A pending packet is taken from
`inbox` and its instruction runs. -/
def step (s : State) : Host.Outcome State Fault Refusal :=
  match s.inbox with
  | [] => exec .coreStep s
  | pkt :: rest =>
    match decode pkt with
    | .ok i => if hostWaits i s then exec .coreStep s else exec i { s with inbox := rest }
    | .malformed => .fault .malformedPacket
    | .noRow k c => .refused (.noRow k c)

/-- The bare table word as the host's next transaction (logs 2, 3). -/
def State.withFetchWord (s : State) (nbits w : Nat) : State := { s with inbox := tablePacket nbits w :: s.inbox }

end Sys2Proof.Machine
end

