-- ==== Sys2Proof/Machine/Exact.lean ====
section
/-! DEFINITION. The exact-real arithmetic of 00_scope R16 ("the reference model uses exact real arithmetic"), as one value of
`Arith`: what the front end's rules say of real numbers is stated over it. `step` does not use it (log 23). -/

namespace Sys2Proof.Machine

/-- `NUM` over the real and complex numbers, angles in turns (log 7). -/
noncomputable def exactNum : Num ℝ ℂ where
  cadd z w := z + w
  cmul z w := z * w
  cexp t := Complex.exp (2 * Real.pi * t * Complex.I)
  abs2 z := Complex.normSq z
  arg z := Complex.arg z / (2 * Real.pi)
  log10 x := Real.logb 10 x
  fft n y k := ((List.range n).map fun m =>
    y.getD m 0 * Complex.exp (-(2 * Real.pi * ((m * k : Nat) : ℝ) / (n : ℝ) * Complex.I))).sum

open Classical in
/-- The exact-real arithmetic (00_scope R16). -/
noncomputable def exactArith : Arith ℝ ℂ where
  toNum := exactNum
  ofRat q := (q : ℝ)
  ofCx z := ⟨(z.re : ℝ), (z.im : ℝ)⟩
  radd a b := a + b
  rmul a b := a * b
  rdiv a b := a / b
  rlt a b := decide (a < b)
  conj z := (starRingEnd ℂ) z
  isZero z := decide (z = 0)

/-- `up(K)` (41_frame_sync R120): one up-chirp symbol with the raw bin `K`, `os * n` samples. -/
noncomputable def upSymbol (n os k : Nat) : List ℂ :=
  (List.range (os * n)).map fun (m : Nat) =>
    exactNum.cexp (let t : ℝ := (m : ℝ) / (os : ℝ)
      t ^ 2 / (2 * n) + ((k : ℝ) / (n : ℝ) - 1 / 2) * t - max 0 (t - ((n : ℝ) - (k : ℝ))))

/-- The window of R153: the up-chirp reference times the tone of bin `k`. -/
noncomputable def toneWindow (n os k : Nat) : List ℂ :=
  List.zipWith exactArith.cmul (refUp exactArith n os)
    ((List.range (os * n)).map fun (m : Nat) => exactNum.cexp ((k : ℝ) * (m : ℝ) / ((os * n : Nat) : ℝ)))

end Sys2Proof.Machine
end

