-- ==== Sys2Proof/Safety.lean ====
section
/-! DEFINITION. What a safe run keeps. `Inv` holds at reset and every step keeps it: the invariants of 10_state section 7, with
what they need of the frozen configuration (R48), of the block in progress (R150, R193), of the frames delivered (R93), and the
premise that the host's list holds transactions and CORE steps only (R72). `Phase.edge` is the graph of 48 R228. -/

namespace Sys2Proof

/-- The moves of the two agents of 20_memory R72: the host's transactions, and the CORE step. The other rows (an operation or a
function run by itself, whatever `PHASE` holds) are no agent's move (log 16). -/
def Instr.isAgentMove : Instr → Bool
  | .csrW .. | .csrR .. | .push .. | .pushsym .. | .outPop => true
  | .nop .. | .start .. | .eos .. | .pop .. | .reset .. => true
  | .cmdReserved4 .. | .cmdReserved5 .. | .cmdReserved6 .. | .cmdReserved7 .. | .cmdReserved8 .. | .cmdReserved9 .. => true
  | .cmdReserved10 .. | .cmdReserved11 .. | .cmdReserved12 .. | .cmdReserved13 .. | .cmdReserved14 .. => true
  | .csrCtrl .. | .csrStatus .. | .csrErr .. | .csrLastErr .. | .csrSf .. | .csrBw .. | .csrFs .. | .csrCr .. => true
  | .csrSyncWord .. | .csrMode .. | .csrPayloadLen .. | .csrLdroMode .. | .csrNPreamble .. | .csrSearchWin .. => true
  | .csrCfoMax .. | .csrFrameLimit .. | .csrAttemptLimit .. | .csrSyncCfoInt .. | .csrSyncCfoFrac .. | .csrSyncSto .. => true
  | .csrSyncSnrDb .. | .csrHdrStartLo .. | .csrHdrStartHi .. | .csrHdr .. | .csrPosLo .. | .csrPosHi .. => true
  | .csrAvailLo .. | .csrAvailHi .. | .csrFrameCount .. | .csrNotfoundCount .. | .csrAbortCount .. => true
  | .csrFrameLevel .. | .csrUnmapped .. => true
  | .coreStep => true
  | _ => false

namespace Machine

/-- `PHASE` is in `{HDR_DEMOD .. EMIT}`: a frame is in progress (10_state section 7, invariant 5). -/
def Phase.framed : Phase → Bool
  | .idle | .search | .sync | .done => false
  | _ => true

/-- The transitions of the table of 48 R228, source to target, for a CORE step; `next_search()` is SEARCH or DONE. A phase may
also stay (a hold, or a block that is not full). -/
def Phase.edge : Phase → Phase → Bool
  | .idle, t => t == .idle
  | .done, t => t == .done
  | .search, t => [.search, .sync, .done, .hdrDemod, .payDemod, .dewhiten].contains t
  | .sync, t => [.sync, .search, .done, .hdrDemod, .payDemod, .dewhiten].contains t
  | .hdrDemod, t => [.hdrDemod, .hdrDecode, .done].contains t
  | .hdrDecode, t => [.payDemod, .dewhiten, .search, .done].contains t
  | .payDemod, t => [.payDemod, .payDecode, .done].contains t
  | .payDecode, t => [.payDemod, .dewhiten].contains t
  | .dewhiten, t => t == .crc
  | .crc, t => t == .emit
  | .emit, t => [.emit, .search, .done].contains t

/-- A Frame record as 30_encoding R93 describes it. -/
structure FrameWf (f : Frame) : Prop where
  codingRate : 1 ≤ f.codingRate.toNat ∧ f.codingRate.toNat ≤ 4
  headerCrcOk : f.headerCrcOk = true
  payloadBytes : f.payloadBytes.length = f.payloadLength.toNat + (if f.hasCrc then 2 else 0)
  crcChecked : f.crcChecked = f.hasCrc
  crcOk : f.hasCrc = false → f.crcOk = true
  hamUnc : f.hamUnc ≤ 514

/-- The header fields describe the frame in progress (10_state R53, R54). -/
def HeaderKnown (s : State) : Prop :=
  (1 ≤ s.hdrf.codingRate.toNat ∧ s.hdrf.codingRate.toNat ≤ 4) ∧ s.hdrf.headerCrcOk = true
    ∧ s.need = needOf s.hdrf.payloadLength.toNat s.hdrf.hasCrc

/-- Symbols demodulated before the payload blocks (30_encoding R89). -/
def headerSymbols (s : State) : Nat := if s.cfg.implicit then 0 else 8

/-- The blocks decoded so far gave `nib`, and `extra` more symbols were demodulated (45 R191). -/
def BlocksDone (s : State) (extra : Nat) : Prop :=
  ∃ t, s.nib.length = t * s.cfg.sfAppPay ∧ s.diag.length = headerSymbols s + t * (s.hdrf.codingRate.toNat + 4) + extra

/-- All the symbols of the frame were demodulated (48 R230). -/
def AllSymbolsDone (s : State) : Prop :=
  s.diag.length = nsymOf s.cfg.implicit (nblkOf s.need s.cfg.sfAppPay) s.hdrf.codingRate.toNat

/-- What holds in each phase of a frame (10_state R51 to R57). -/
def PhaseWf (s : State) : Prop :=
  match s.phase with
  | .idle | .search | .done => True
  | .sync => (s.p : Int) ≤ s.cand.q2 + (s.cfg.os / 2 : Nat) ∧ s.cfg.inject = false
  | .hdrDemod => s.cfg.implicit = false ∧ s.blklen = 8 ∧ s.symbuf.length < 8 ∧ s.diag.length = s.symbuf.length
  | .hdrDecode => s.cfg.implicit = false ∧ s.blklen = 8 ∧ s.symbuf.length = 8 ∧ s.diag.length = 8 ∧ s.p < s.sympos
  | .payDemod => HeaderKnown s ∧ s.blklen = s.hdrf.codingRate.toNat + 4 ∧ s.symbuf.length < s.blklen ∧ s.nib.length < s.need
      ∧ BlocksDone s s.symbuf.length
  | .payDecode => HeaderKnown s ∧ s.blklen = s.hdrf.codingRate.toNat + 4 ∧ s.symbuf.length = s.blklen ∧ s.nib.length < s.need
      ∧ BlocksDone s s.blklen ∧ s.p < s.sympos
  | .dewhiten => HeaderKnown s ∧ s.nib.length = s.need ∧ AllSymbolsDone s ∧ s.p < s.sympos
  | .crc => HeaderKnown s ∧ s.bytes.length = s.need / 2 ∧ AllSymbolsDone s ∧ s.p < s.sympos
  | .emit => HeaderKnown s ∧ s.bytes.length = s.need / 2 ∧ AllSymbolsDone s ∧ s.p < s.sympos
      ∧ s.crcChecked = s.hdrf.hasCrc ∧ (s.hdrf.hasCrc = false → s.crcOk = true)

/-- The invariant of the CORE's own state. -/
structure CoreInv (s : State) : Prop where
  /-- the sample store holds exactly the entries below `AVAIL` (20_memory R61) -/
  memory : Memory.wf s = true
  /-- an injected bin is below `N` (20_memory R79) -/
  bins : s.cfg.inject = true → ∀ z ∈ s.store, binOf z < s.cfg.bins
  /-- bit 0 and bits 31:12 of `ERR` read 0 (10_state R24); `LAST_ERR` is a code (R25) -/
  err : s.err &&& 0xFFFFF001#32 = 0
  lastErr : s.lastErr.toNat ≤ 11
  /-- while running, `CFG` is the frozen copy of a valid configuration (10_state R48) -/
  cfg : running s = true → ∃ c, configOk c = true ∧ s.cfg = freeze c
  /-- `SYNC.locked` in the phases HDR_DEMOD to EMIT, and in no other (10_state R49, section 7 invariant 5) -/
  locked : s.sync.locked = s.phase.framed
  /-- `P <= RETIRE` (10_state R47, section 7 invariant 1) -/
  cursor : s.p ≤ retire s
  /-- `SYMPOS = HDR_START + (symbols demodulated) * WLEN` while locked (48 R229) -/
  grid : s.sync.locked = true → s.sympos = s.hdrStart + s.diag.length * s.cfg.wlen
  /-- `len(SYMBUF) <= BLKLEN <= 8` (invariant 2), and every buffered bin is below `N` (R51) -/
  symbuf : s.symbuf.length ≤ s.blklen ∧ s.blklen ≤ 8
  symbolBins : ∀ k ∈ s.symbuf, k < s.cfg.bins
  /-- `len(NIB) <= NEED <= 514` (invariant 3), `HAM_UNC` within it (R54) -/
  nib : s.nib.length ≤ s.need ∧ s.need ≤ 514
  hamUnc : s.hamUnc ≤ s.nib.length
  /-- a valid header has a legal coding rate (invariant 4) -/
  valid : s.hdrf.valid = true → 1 ≤ s.hdrf.codingRate.toNat ∧ s.hdrf.codingRate.toNat ≤ 4
  /-- at most `FRAME_FIFO_DEPTH` records (R58), a depth of at least 1 (00_scope R11), each record as R93 says -/
  fifo : s.fifo.length ≤ s.inst.fifoDepth ∧ 1 ≤ s.inst.fifoDepth
  frames : ∀ f ∈ s.fifo, FrameWf f
  /-- what the phase asks of its registers -/
  phase : PhaseWf s

/-- The host's list holds the moves of the two agents only (20_memory R72). -/
def AgentInbox (s : State) : Prop := ∀ pkt ∈ s.inbox, ∀ i, decode pkt = .ok i → i.isAgentMove = true

/-- The invariant of a run. -/
structure Inv (s : State) : Prop where
  agents : AgentInbox s
  core : CoreInv s

/-- The values of 70_reset R280. `CFG` and `CAND` are unspecified there. -/
structure ResetValues (s : State) : Prop where
  phase : s.phase = .idle
  csr : s.csr = { sf := 0, bw := 0, fs := 0, cr := 0, syncWord := 0x12, mode := 0, payloadLen := 0, ldroMode := 0,
                  nPreamble := 8, searchWin := 32, cfoMax := 0, frameLimit := 0, attemptLimit := 0 }
  errors : s.err = 0 ∧ s.lastErr = 0
  counters : s.frameCount = 0 ∧ s.notfoundCount = 0 ∧ s.abortCount = 0
  cursors : s.p = 0 ∧ s.sympos = 0 ∧ s.hdrStart = 0 ∧ s.avail = 0 ∧ s.eos = false
  store : s.store = []
  sync : s.sync = ⟨0, 0, 0, .fin 0, false⟩
  hdrf : s.hdrf = ⟨0, 0, false, false, false⟩
  lists : s.symbuf = [] ∧ s.diag = [] ∧ s.nib = [] ∧ s.bytes = []
  counts : s.blklen = 0 ∧ s.need = 0 ∧ s.hamUnc = 0
  lfsr : s.lfsr = 0x1FF
  crc : s.crcRx = 0 ∧ s.crcCalc = 0 ∧ s.crcOk = false ∧ s.crcChecked = false
  fifo : s.fifo = []
  /-- every read-only view reads 0 -/
  views : ∀ n, (1 ≤ n ∧ n ≤ 3) ∨ (0x11 ≤ n ∧ n ≤ 0x1F) → csrView n s = 0

/-- CommandInvalid is recorded and nothing else happens (60_exceptions R261). -/
def commandInvalid (s : State) : State := { s with err := s.err ||| 0x800#32, lastErr := 11 }

/-- `k` CORE steps with nothing pending. -/
def coreSteps : Nat → State → State
  | 0, s => s
  | k + 1, s => coreSteps k (coreStepOp s)

end Machine

end Sys2Proof
end

