-- ==== Sys2Proof/Certificates/Slice0/Obligations.lean ====
section
/-! DEFINITION. The statements for the provers, in the order of OBLIGATIONS.json. Each names the rules of spec/ it formalises. -/

open Sys2Proof Sys2Proof.Machine

/-! ### Packets and steps -/

/-- Decoding the packet of a well-formed instruction gives the instruction back, with every operand (the framing is log 1). -/
def Obligations.DecodeInvertsEncode : Prop :=
  ∀ i : Instr, i.wellFormed = true → decode (encode i) = .ok i

/-- Every packet that decodes is the packet of one well-formed instruction: no bit of it is dropped (log 1). -/
def Obligations.EncodeInvertsDecode : Prop :=
  ∀ (p : Packet) (i : Instr), decode p = .ok i → i.wellFormed = true ∧ encode i = p

/-- A few packets with codes written out from the tables of 30_encoding R96, R97, R99, 10_state R45 and 43 R171. The kind byte is
the model's framing (log 1), and that phase code 11 answers `noRow` is the model's choice (log 26): R97 leaves 11 to 15 unused. -/
def Obligations.SpecWordsDecode : Prop :=
  decode [5, 0x01, 0x00, 0x00, 0x00] = .ok (.start 0) ∧
  decode [5, 0x13, 0xEF, 0xCD, 0xAB] = .ok (.pop 0xABCDEF1) ∧
  decode [5, 0x0F, 0x00, 0x00, 0x00] = .ok (.reset 0) ∧
  decode [0, 0x07, 0x04, 0x00, 0x00, 0x00] = .ok (.csrW 0x07 4) ∧
  decode [6, 0x08, 1, 0x34, 0x12, 0x01, 0x00] = .ok (.csrSyncWord (.wr 0x00011234)) ∧
  decode [6, 0x20, 0] = .ok (.csrUnmapped 0x20 .rd) ∧
  decode [2, 0x00, 0x00, 0x80, 0x3F, 0x00, 0x00, 0x00, 0xBF] = .ok (.push 0xBF0000003F800000) ∧
  decode [7, 8] = .ok .crcCheck ∧ decode [7, 11] = .noRow 7 11 ∧
  decode [11, 0x1F] = .ok .deinterleave ∧ decode [12, 4] = .ok .hamDec8

/-- A step with nothing pending is a CORE step; a pending packet that decodes runs its instruction and leaves the list, unless it
is a beat that SAMPLE_IN is not ready for: then it stays and the CORE moves (20_memory R65, R72; logs 3, 4). -/
def Obligations.StepRunsDecodedInstruction : Prop :=
  ∀ s : State, (s.inbox = [] → step s = exec .coreStep s) ∧
    ∀ (pkt : Packet) (rest : List Packet) (i : Instr),
      s.inbox = pkt :: rest → decode pkt = .ok i → i.wellFormed = true →
      (((∃ b, i = .push b ∨ i = .pushsym b) ∧ running s = true ∧ s.eos = false ∧ storeFull s = true) →
        step s = exec .coreStep s) ∧
      (¬ ((∃ b, i = .push b ∨ i = .pushsym b) ∧ running s = true ∧ s.eos = false ∧ storeFull s = true) →
        step s = exec i { s with inbox := rest })

/-- Totality (60_exceptions R263): every instruction, in every state, answers a next state; it leaves the host's list and the
parameters of the instance (00_scope R11) as they were. -/
def Obligations.EveryInstructionCompletes : Prop :=
  ∀ (i : Instr) (s : State), ∃ t, exec i s = .next t ∧ t.inbox = s.inbox ∧ t.inst = s.inst

/-- The invariant of Safety.lean holds at reset. -/
def Obligations.InvAtReset : Prop := Inv State.reset

/-- Every step keeps the invariant of Safety.lean: the sample store holds exactly the entries below AVAIL, SYNC.locked says that
a frame is in progress, the buffers keep their bounds, every record in the FIFO is a well-formed Frame. -/
def Obligations.StepKeepsInv : Prop :=
  ∀ s t : State, Inv s → step s = .next t → Inv t

/-! ### Reset, errors, commands -/

/-- RESET, from every state, and the state the machine starts in hold the values of 70_reset R280. -/
def Obligations.ResetRestoresEverything : Prop :=
  (∀ (ign : BitVec 28) (s : State), ∃ t, exec (.reset ign) s = .next t ∧ ResetValues t
    ∧ t.inbox = s.inbox ∧ t.rdata = s.rdata ∧ t.frameOut = s.frameOut ∧ t.inst = s.inst)
  ∧ ResetValues State.reset

/-- `raise` (60_exceptions R262) sets the kind's bit of ERR and LAST_ERR and changes nothing else, with the codes of R250. -/
def Obligations.RaiseRecordsOnly : Prop :=
  ∀ (s : State) (k : ErrKind) (c : Nat),
    (k, c) ∈ [(ErrKind.syncNotFound, 1), (.cfoOutOfRange, 2), (.headerCrcMismatch, 3), (.hammingUncorrectable, 4),
      (.payloadCrcMismatch, 5), (.insufficientSamples, 6), (.configInvalid, 7), (.headerFieldInvalid, 8),
      (.payloadHammingUncorrectable, 9), (.nonFiniteSample, 10), (.commandInvalid, 11)] →
    s.call.err = k →
    exec .raise s = .next { s with err := s.err ||| (1#32 <<< c), lastErr := BitVec.ofNat 4 c }

/-- NOP changes nothing (48 R217); the reserved commands 4 to 14 record CommandInvalid and change nothing else (48 R219, 30 R96,
R100). -/
def Obligations.NopAndReservedCommands : Prop :=
  ∀ (ign : BitVec 28) (s : State), exec (.nop ign) s = .next s ∧
    ∀ i ∈ [Instr.cmdReserved4 ign, .cmdReserved5 ign, .cmdReserved6 ign, .cmdReserved7 ign, .cmdReserved8 ign,
      .cmdReserved9 ign, .cmdReserved10 ign, .cmdReserved11 ign, .cmdReserved12 ign, .cmdReserved13 ign, .cmdReserved14 ign],
      exec i s = .next (commandInvalid s)

/-- START (48 R221): refused while running, refused on an invalid configuration, else everything of the list is written and
nothing else changes. -/
def Obligations.StartFreezesAndClears : Prop :=
  ∀ (ign : BitVec 28) (s : State),
    (running s = true → exec (.start ign) s = .next (commandInvalid s)) ∧
    (running s = false → configOk s.csr = false →
      exec (.start ign) s = .next { s with err := s.err ||| 0x80#32, lastErr := 7 }) ∧
    (running s = false → configOk s.csr = true → exec (.start ign) s = .next
      { s with
        err := 0, lastErr := 0, cfg := freeze s.csr, store := [], avail := 0, eos := false, p := 0, sympos := 0
        hdrStart := 0, sync := ⟨0, 0, 0, .fin 0, false⟩, hdrf := ⟨0, 0, false, false, false⟩, symbuf := [], blklen := 0
        diag := [], nib := [], need := 0, hamUnc := 0, bytes := [], crcRx := 0, crcCalc := 0, crcOk := false
        crcChecked := false, frameCount := 0, notfoundCount := 0, abortCount := 0, phase := .search })

/-- EOS (48 R218). -/
def Obligations.EosDeclaresEndOfStream : Prop :=
  ∀ (ign : BitVec 28) (s : State),
    (running s = true → exec (.eos ign) s = .next { s with eos := true }) ∧
    (running s = false → exec (.eos ign) s = .next (commandInvalid s))

/-- POP, as a command and as a transaction (48 R222): the oldest record leaves the FIFO and its words are delivered. -/
def Obligations.PopDeliversOldestFrame : Prop :=
  ∀ (ign : BitVec 28) (s : State) (i : Instr), i = .pop ign ∨ i = .outPop →
    (s.fifo = [] → exec i s = .next { commandInvalid s with frameOut := [] }) ∧
    (∀ f rest, s.fifo = f :: rest → exec i s = .next { s with fifo := rest, frameOut := frameWords f })

/-- One beat on SAMPLE_IN (48 R216), whichever of the two rows names it (log 20). An injected bin
is stored as a number (log 21, DESIGN CHOICE). -/
def Obligations.BeatIsRefusedHeldOrStored : Prop :=
  ∀ (b : Beat) (s : State) (i : Instr), i = .push b ∨ i = .pushsym b →
    (running s = false ∨ s.eos = true → exec i s = .next (commandInvalid s)) ∧
    (running s = true → s.eos = false →
      ((∃ d, s.inst.storeDepth = some d ∧ d ≤ s.avail - min (retire s) s.avail) → exec i s = .next s) ∧
      ((∀ d, s.inst.storeDepth = some d → s.avail - min (retire s) s.avail < d) →
        (s.cfg.inject = true → exec i s = .next
          { s with store := s.store ++ [⟨((b.toNat % 65536 % s.cfg.bins : Nat) : Rat), 0⟩], avail := s.avail + 1 }) ∧
        (s.cfg.inject = false → ∀ (re im : Rat) (nf0 nf1 : Bool),
          f32 (b.extractLsb' 0 32) = (re, nf0) → f32 (b.extractLsb' 32 32) = (im, nf1) →
          exec i s = .next
            { s with
              store := s.store ++ [⟨re, im⟩]
              avail := s.avail + 1
              err := if nf0 || nf1 then s.err ||| 0x400#32 else s.err
              lastErr := if nf0 || nf1 then 10 else s.lastErr })))

/-- The one entry an accepted beat writes is `S[AVAIL]` (20_memory R61): it reads back, and every other index reads as before. -/
def Obligations.BeatWritesOneStoreEntry : Prop :=
  ∀ (b : Beat) (s : State), Memory.wf s = true → running s = true → s.eos = false → storeFull s = false →
    ∃ t, exec (.push b) s = .next t ∧ t.avail = s.avail + 1 ∧ Memory.wf t = true ∧
      (∀ i, i ≠ s.avail → sampleAt t i = sampleAt s i) ∧
      (retire s ≤ s.avail → sampleAt t s.avail = (beatEntry s b).1)

/-- `f32` (20_memory R67): a word with exponent 255 gives 0 and the flag, every other word its exact value. -/
def Obligations.FloatWordsAreExact : Prop :=
  (∀ s : State, exec .f32ToNum s = .next
    { s with ret := .float (f32 (BitVec.ofNat 32 s.call.n0)).1 (f32 (BitVec.ofNat 32 s.call.n0)).2 }) ∧
  ∀ (w : Word32) (e f : Nat) (sign : Rat), e = w.toNat / 2 ^ 23 % 256 → f = w.toNat % 2 ^ 23 →
    sign = (if w.toNat < 2 ^ 31 then 1 else -1) →
    (e = 255 → f32 w = (0, true)) ∧
    (e = 0 → f32 w = (sign * (f : Rat) * (2 : Rat) ^ (-149 : Int), false)) ∧
    (0 < e → e < 255 → f32 w = (sign * ((2 ^ 23 + f : Nat) : Rat) * (2 : Rat) ^ ((e : Int) - 150), false))

/-! ### Registers -/

/-- CSR.W and CSR.R act as the row of the register number (30_encoding R95, 10_state R45); a write of CTRL executes the command in
bits 3:0 (10_state R22, 30 R96). -/
def Obligations.CsrTransactionsActAsRows : Prop :=
  ∀ (n : Byte) (v : Word32) (s : State),
    exec (.csrW n v) s = exec (decodeCsr n (.wr v)) s ∧ exec (.csrR n) s = exec (decodeCsr n .rd) s ∧
    exec (.csrCtrl (.wr v)) s = exec (decodeCommand v) s ∧ exec (.csrW 0 v) s = exec (decodeCommand v) s

/-- A read of a register returns the register's view and changes nothing else (10_state R21 to R44); a read of a number that no
register has returns 0 with CommandInvalid. `rdata` is the model's (log 5); the words of SYNC_CFO_FRAC and SYNC_SNR_DB are the
model's rounding (log 18, PRESUMED); unbounded and wide values show their low bits (logs 12, 19). -/
def Obligations.CsrReadsReturnViews : Prop :=
  ∀ s : State,
    (∀ i v, (i, v) ∈ [(Instr.csrCtrl .rd, (0 : Word32)), (.csrStatus .rd, statusView s), (.csrErr .rd, s.err),
        (.csrLastErr .rd, s.lastErr.setWidth 32), (.csrSf .rd, s.csr.sf.setWidth 32), (.csrBw .rd, s.csr.bw),
        (.csrFs .rd, s.csr.fs), (.csrCr .rd, s.csr.cr.setWidth 32), (.csrSyncWord .rd, s.csr.syncWord.setWidth 32),
        (.csrMode .rd, s.csr.mode.setWidth 32), (.csrPayloadLen .rd, s.csr.payloadLen.setWidth 32),
        (.csrLdroMode .rd, s.csr.ldroMode.setWidth 32), (.csrNPreamble .rd, s.csr.nPreamble.setWidth 32),
        (.csrSearchWin .rd, s.csr.searchWin.setWidth 32), (.csrCfoMax .rd, s.csr.cfoMax.setWidth 32),
        (.csrFrameLimit .rd, s.csr.frameLimit), (.csrAttemptLimit .rd, s.csr.attemptLimit),
        (.csrSyncCfoInt .rd, BitVec.ofInt 32 s.sync.cfoInt), (.csrSyncCfoFrac .rd, toF32 s.sync.cfoFrac),
        (.csrSyncSto .rd, BitVec.ofNat 32 s.sync.sto), (.csrSyncSnrDb .rd, extF32 s.sync.snrDb),
        (.csrHdrStartLo .rd, BitVec.ofNat 32 s.hdrStart), (.csrHdrStartHi .rd, BitVec.ofNat 32 (s.hdrStart / 2 ^ 32)),
        (.csrPosLo .rd, BitVec.ofNat 32 (retire s)), (.csrPosHi .rd, BitVec.ofNat 32 (retire s / 2 ^ 32)),
        (.csrAvailLo .rd, BitVec.ofNat 32 s.avail), (.csrAvailHi .rd, BitVec.ofNat 32 (s.avail / 2 ^ 32)),
        (.csrFrameCount .rd, BitVec.ofNat 32 s.frameCount), (.csrNotfoundCount .rd, BitVec.ofNat 32 s.notfoundCount),
        (.csrAbortCount .rd, BitVec.ofNat 32 s.abortCount), (.csrFrameLevel .rd, BitVec.ofNat 32 s.fifo.length)] →
      exec i s = .next { s with rdata := v }) ∧
    exec (.csrHdr .rd) s = .next { s with rdata := BitVec.ofNat 32 (s.hdrf.payloadLength.toNat
      + 2 ^ 8 * s.hdrf.codingRate.toNat + 2 ^ 11 * s.hdrf.hasCrc.toNat + 2 ^ 12 * s.hdrf.headerCrcOk.toNat
      + 2 ^ 13 * s.hdrf.valid.toNat) } ∧
    ∀ n : Byte, (Instr.csrUnmapped n .rd).wellFormed = true →
      exec (.csrUnmapped n .rd) s = .next { commandInvalid s with rdata := 0 }

/-- A write of an RW register is accepted in IDLE and DONE only and keeps the register's bits; a write of an RO register or of a
number that no register has is refused (10_state R21, R26 to R38). That SEARCH_WIN keeps 16 bits is the model's (log 19, DEDUCED). -/
def Obligations.CsrWritesSetOrAreRefused : Prop :=
  ∀ (s : State) (v : Word32),
    (∀ i c, (i, c) ∈ [(Instr.csrSf (.wr v), { s.csr with sf := v.setWidth 4 }), (.csrBw (.wr v), { s.csr with bw := v }),
        (.csrFs (.wr v), { s.csr with fs := v }), (.csrCr (.wr v), { s.csr with cr := v.setWidth 3 }),
        (.csrSyncWord (.wr v), { s.csr with syncWord := v.setWidth 17 }), (.csrMode (.wr v), { s.csr with mode := v.setWidth 4 }),
        (.csrPayloadLen (.wr v), { s.csr with payloadLen := v.setWidth 8 }),
        (.csrLdroMode (.wr v), { s.csr with ldroMode := v.setWidth 2 }),
        (.csrNPreamble (.wr v), { s.csr with nPreamble := v.setWidth 16 }),
        (.csrSearchWin (.wr v), { s.csr with searchWin := v.setWidth 16 }),
        (.csrCfoMax (.wr v), { s.csr with cfoMax := v.setWidth 16 }),
        (.csrFrameLimit (.wr v), { s.csr with frameLimit := v }), (.csrAttemptLimit (.wr v), { s.csr with attemptLimit := v })] →
      (running s = false → exec i s = .next { s with csr := c }) ∧ (running s = true → exec i s = .next (commandInvalid s))) ∧
    (∀ i ∈ [Instr.csrStatus (.wr v), .csrErr (.wr v), .csrLastErr (.wr v), .csrSyncCfoInt (.wr v), .csrSyncCfoFrac (.wr v),
        .csrSyncSto (.wr v), .csrSyncSnrDb (.wr v), .csrHdrStartLo (.wr v), .csrHdrStartHi (.wr v), .csrHdr (.wr v),
        .csrPosLo (.wr v), .csrPosHi (.wr v), .csrAvailLo (.wr v), .csrAvailHi (.wr v), .csrFrameCount (.wr v),
        .csrNotfoundCount (.wr v), .csrAbortCount (.wr v), .csrFrameLevel (.wr v)],
      exec i s = .next (commandInvalid s)) ∧
    ∀ n : Byte, (Instr.csrUnmapped n (.wr v)).wellFormed = true →
      exec (.csrUnmapped n (.wr v)) s = .next (commandInvalid s)

/-- Outside a run, CSR.R after CSR.W of an RW register returns the value written cut to the register's width, every other RW
register reads as before, and nothing but the registers has changed (10_state R21; the widths are those of R26 to R38). That
SEARCH_WIN is 16 bits wide is the model's (log 19, DEDUCED). -/
def Obligations.RwRegisterReadsBack : Prop :=
  ∀ (n : Byte) (w : Nat), (n, w) ∈ [((0x04 : Byte), 4), (0x05, 32), (0x06, 32), (0x07, 3), (0x08, 17), (0x09, 4), (0x0A, 8),
      (0x0B, 2), (0x0C, 16), (0x0D, 16), (0x0E, 16), (0x0F, 32), (0x10, 32)] →
    ∀ (s : State) (v : Word32), running s = false →
      ∃ t u, exec (.csrW n v) s = .next t ∧ exec (.csrR n) t = .next u ∧ u.rdata.toNat = v.toNat % 2 ^ w ∧
        (∀ m, 4 ≤ m → m ≤ 16 → m ≠ n.toNat → csrView m t = csrView m s) ∧ { t with csr := s.csr } = s

/-- The bits of STATUS (10_state R23, 48 R231), with "starved" spelled out where the state alone decides it. That the FIFO is full with
`FRAME_FIFO_DEPTH` records or more is the model's reading of `len(FIFO) = FRAME_FIFO_DEPTH` (log 22, DEDUCED). -/
def Obligations.StatusBits : Prop :=
  ∀ (s : State) (v : Word32), csrView 0x01 s = v →
    v.toNat % 16 = s.phase.code ∧
    v.getLsbD 4 = (decide (s.phase ≠ .idle) && decide (s.phase ≠ .done)) ∧
    v.getLsbD 5 = s.sync.locked ∧
    v.getLsbD 6 = (running s && !s.eos && starved s) ∧
    v.getLsbD 7 = decide (0 < s.fifo.length) ∧
    v.getLsbD 8 = s.eos ∧
    v.getLsbD 9 = (decide (s.phase = .emit) && decide (s.inst.fifoDepth ≤ s.fifo.length)) ∧
    v.getLsbD 10 = configOk s.csr ∧
    (∀ k, 11 ≤ k → v.getLsbD k = false) ∧
    (s.phase = .hdrDemod ∨ s.phase = .payDemod → (starved s = true ↔ s.avail < s.sympos + s.cfg.wlen)) ∧
    (s.phase = .search → s.cfg.inject = true → (starved s = true ↔ s.avail ≤ s.p))

/-! ### The sequencer -/

/-- The CORE step is the operation that PHASE selects (48 R223, 30_encoding R97); in IDLE and DONE nothing changes (48 R224). That the rows
IDLE and DONE do so whatever PHASE holds is the model's choice (log 16). -/
def Obligations.CoreStepRunsOperationOfPhase : Prop :=
  ∀ s : State, exec .idle s = .next s ∧ exec .done s = .next s ∧
    (s.phase = .idle ∨ s.phase = .done → exec .coreStep s = .next s) ∧
    (s.phase = .search → s.cfg.inject = true → exec .coreStep s = exec .injectSearch s) ∧
    (∀ p i, (p, i) ∈ [(Phase.sync, Instr.syncMatch), (.hdrDemod, .demodSymbolHdr), (.hdrDecode, .headerDecode),
        (.payDemod, .demodSymbolPay), (.payDecode, .payloadBlockDecode), (.dewhiten, .dewhiten), (.crc, .crcCheck),
        (.emit, .emitFrame)] → s.phase = p → exec .coreStep s = exec i s) ∧
    (s.phase = .search → s.cfg.inject = false → exec .coreStep s = exec .preambleSearch s)

/-- A starved operation holds while EOS = 0 (20_memory R64) and takes its end-of-stream action when EOS = 1 (48 R235).
That the row EOS_ACTION takes the action whether or not the operation is starved and EOS = 1 is the model's choice (log 30). -/
def Obligations.StarvedHoldsOrEnds : Prop :=
  ∀ s : State,
    (starved s = true → s.eos = false → exec .coreStep s = .next s) ∧
    (starved s = true → s.eos = true → exec .coreStep s = exec .eosAction s) ∧
    (s.phase = .search ∨ s.phase = .sync →
      exec .eosAction s = .next { s with sync := { s.sync with locked := false }, phase := .done }) ∧
    (s.phase = .hdrDemod ∨ s.phase = .payDemod →
      exec .eosAction s = .next
        { s with
          err := s.err ||| 0x40#32
          lastErr := 6
          sync := { s.sync with locked := false }
          hdrf := { s.hdrf with valid := false }
          phase := .done })

/-- An operation that is not starved does the same whatever the host has pushed beyond what it reads (20_memory R64): a CORE step
and an appended entry commute, so the results do not depend on how they interleave (R75). A non-finite
beat also raises: LAST_ERR is the one register that R75 does not hold of in every run that EOS ends (log 35). -/
def Obligations.PushCommutesWithCoreStep : Prop :=
  ∀ (s t : State) (z : Cx), Memory.wf s = true → starved s = false → exec .coreStep s = .next t →
    exec .coreStep (appendSample z s) = .next (appendSample z t)

/-- `lock` (48 R225), as a row and as the effect of INJECT_SEARCH (48 R240), which is starved where `P >= AVAIL`.
The model's part: the row LOCK acts on the state with operands from the call frame (logs 6, 28); INJECT_SEARCH acts in every PHASE
and with CFG.inject = 0 too, where R240 gives it with 1 only (log 16). -/
def Obligations.LockWritesSyncAndStartsFrame : Prop :=
  (∀ (c : Int) (f : Rat) (n : Nat) (x : Ext Rat) (a : Nat) (s : State),
    (s.cfg.implicit = false → lockOn c f n x a s =
      { s with
        sync := ⟨c, f, n, x, true⟩, hdrStart := a, sympos := a, diag := [], symbuf := [], nib := [], hamUnc := 0
        bytes := [], hdrf := ⟨0, 0, false, false, false⟩, blklen := 8, phase := .hdrDemod }) ∧
    (s.cfg.implicit = true → ∀ (len : BitVec 8) (cr : BitVec 3), s.cfg.payloadLength = len.toNat → s.cfg.cr = cr.toNat →
      lockOn c f n x a s =
      { s with
        sync := ⟨c, f, n, x, true⟩, hdrStart := a, sympos := a, diag := [], symbuf := [], nib := [], hamUnc := 0
        bytes := [], hdrf := ⟨len, cr, s.cfg.hasCrc, true, true⟩, blklen := cr.toNat + 4
        need := 2 * (len.toNat + if s.cfg.hasCrc then 2 else 0)
        phase := if len = 0 ∧ s.cfg.hasCrc = false then .dewhiten else .payDemod })) ∧
  ∀ s : State,
    exec .lock s = .next (lockOn s.call.z0 s.call.real s.call.n0 s.call.snr s.call.n1 s) ∧
    (s.p < s.avail → exec .injectSearch s = .next (lockOn 0 0 0 (.fin 0) s.p s)) ∧
    (s.avail ≤ s.p → s.eos = false → exec .injectSearch s = .next s) ∧
    (s.avail ≤ s.p → s.eos = true →
      exec .injectSearch s = .next { s with sync := { s.sync with locked := false }, phase := .done })

/-- `payload_setup` (48 R226). -/
def Obligations.PayloadSetupSizesThePayload : Prop :=
  ∀ (s : State) (need : Nat), need = 2 * (s.hdrf.payloadLength.toNat + if s.hdrf.hasCrc then 2 else 0) →
    exec .payloadSetup s = .next
      { s with
        need := need
        nib := []
        hamUnc := 0
        symbuf := []
        blklen := s.hdrf.codingRate.toNat + 4
        phase := if need = 0 then .dewhiten else .payDemod }

/-- How a frame attempt ends: `next_search` (48 R236) on the updated counters, `sync_fail` (41 R135), `header_abort` (48 R227). -/
def Obligations.FailedAttemptsResumeSearch : Prop :=
  ∀ s : State,
    (∀ ph, ((s.cfg.frameLimit ≠ 0 ∧ s.frameCount ≥ s.cfg.frameLimit) ∨
        (s.cfg.attemptLimit ≠ 0 ∧ s.notfoundCount + s.abortCount ≥ s.cfg.attemptLimit) → ph = Phase.done) →
      (¬ ((s.cfg.frameLimit ≠ 0 ∧ s.frameCount ≥ s.cfg.frameLimit) ∨
        (s.cfg.attemptLimit ≠ 0 ∧ s.notfoundCount + s.abortCount ≥ s.cfg.attemptLimit)) → ph = .search) →
      nextPhase s = ph ∧ exec .nextSearch s = .next { s with ret := .phase ph }) ∧
    exec .syncFail s = .next
      { s with
        notfoundCount := s.notfoundCount + 1
        sync := { s.sync with locked := false }
        p := s.p + s.cfg.ns
        phase := nextPhase { s with notfoundCount := s.notfoundCount + 1 } } ∧
    exec .headerAbort s = .next
      { s with
        abortCount := s.abortCount + 1
        sync := { s.sync with locked := false }
        p := s.sympos
        symbuf := []
        phase := nextPhase { s with abortCount := s.abortCount + 1 } }

/-- The phase graph of 48 R228: a CORE step moves along it; a host transaction leaves PHASE alone but for an accepted START (from
IDLE or DONE to SEARCH) and RESET (to IDLE). -/
def Obligations.PhasesFollowTheGraph : Prop :=
  (∀ s t : State, exec .coreStep s = .next t →
    s.phase.edge t.phase = true ∧ (s.phase = .search → t.phase = .sync → s.cfg.inject = false)) ∧
  ∀ (i : Instr) (s t : State), i.isAgentMove = true → i ≠ .coreStep → exec i s = .next t →
    t.phase = s.phase ∨ ((s.phase = .idle ∨ s.phase = .done) ∧ configOk s.csr = true ∧ t.phase = .search) ∨ ResetValues t

/-- "Immutable once a frame is locked" (10_state R49): while SYNC.locked stays 1, no move of either agent writes SYNC or
HDR_START. -/
def Obligations.SyncImmutableWhileLocked : Prop :=
  ∀ (i : Instr) (s t : State), CoreInv s → i.isAgentMove = true → exec i s = .next t →
    s.sync.locked = true → t.sync.locked = true → t.sync = s.sync ∧ t.hdrStart = s.hdrStart

/-- `P` never decreases in a run (10_state R47), and every attempt that ends leaves it strictly larger (48 R238); the CORE never
moves AVAIL; only START and RESET take `P` back, to 0. -/
def Obligations.EveryAttemptAdvances : Prop :=
  (∀ s t : State, CoreInv s → exec .coreStep s = .next t →
    s.p ≤ t.p ∧ t.avail = s.avail ∧
    (t.frameCount + t.notfoundCount + t.abortCount ≠ s.frameCount + s.notfoundCount + s.abortCount → s.p < t.p)) ∧
  ∀ (i : Instr) (s t : State), i.isAgentMove = true → i ≠ .coreStep → exec i s = .next t →
    t.p = s.p ∨ (t.p = 0 ∧ t.avail = 0 ∧ t.store = [])

/-- Termination (48 R238): once EOS = 1, finitely many CORE steps reach DONE (or IDLE, where the CORE was), or EMIT held by a full
FIFO, which only the host's POP ends. -/
def Obligations.RunEndsAfterEos : Prop :=
  ∀ s : State, CoreInv s → s.eos = true →
    ∃ k, (coreSteps k s).phase = .done ∨ (coreSteps k s).phase = .idle ∨
      ((coreSteps k s).phase = .emit ∧ (coreSteps k s).inst.fifoDepth ≤ (coreSteps k s).fifo.length)

/-! ### The front end -/

/-- PREAMBLE_SEARCH (41 R121, R122): the candidates `P + w0*Ns`, `w0 = 0 .. search_win - n_pre`, in order. The first one that is not
"not stable" decides, whatever samples of the later ones are there: a found one goes to SYNC, one that cannot be read yet holds, or
ends the run at end of stream; if every one is not stable, SyncNotFound and `sync_fail` (R135). And what the candidate at `q` is: the
peaks `b`, `stable`, the bin `bb` of the summed powers, `cf`, the powers after correction by `cf`, `b2`, the SNR, the coarse and the
fine alignment (R121, R123, R126). The row acts in every PHASE and whatever CFG.inject
holds (log 16); NUM and the order of sums are logs 7, 8. -/
def Obligations.PreambleSearchTakesFirstCandidate : Prop :=
  (∀ (s fail : State) (n : Nat) (eval : Nat → Option (Option (Found Rat))), n + s.cfg.nPre = s.cfg.searchWin + 1 →
    fail = { s with
      err := s.err ||| 0x2#32, lastErr := 1, notfoundCount := s.notfoundCount + 1
      sync := { s.sync with locked := false }, p := s.p + s.cfg.ns
      phase := nextPhase { s with notfoundCount := s.notfoundCount + 1 } } →
    (∀ w, eval w = examine machineArith s.cfg (window s s.cfg.ns) (s.p + w * s.cfg.ns)) →
    exec .preambleSearch s = .next
      (match (List.range n).find? (fun w => decide (eval w ≠ some none)) with
       | none => fail
       | some w0 =>
         match eval w0 with
         | some (some (q2, cf, snr)) => { s with cand := ⟨q2, cf, snr⟩, phase := .sync }
         | _ => if s.eos then { s with sync := { s.sync with locked := false }, phase := .done } else s)) ∧
  ∀ (s : State) (q r bb b2 q2 : Nat) (y : Rat → Nat → List Cx) (ps : Rat → List Rat) (b : Nat → Nat) (cf : Rat) (steady : Bool),
    r + 1 = s.cfg.nPre →
    (∀ f w, y f w = spectrum machineArith s.cfg false f
      ((List.range s.cfg.ns).map fun m => sampleAt s (q + w * s.cfg.ns + m))) →
    (∀ w, b w = peak machineArith ((y 0 w).map machineArith.abs2)) →
    (∀ f, ps f = (List.range s.cfg.bins).map fun k =>
      ((List.range r).map fun w => machineArith.abs2 ((y f w).getD k ⟨0, 0⟩)).sum) →
    (steady = true ↔ ∀ w, w < r → 0 < realAt machineArith ((y 0 w).map machineArith.abs2) (b w) ∧ circdist s.cfg.bins (b w) (b 0) ≤ 1) →
    bb = peak machineArith (ps 0) → cf = fracCfo machineArith ((List.range r).map (y 0)) bb →
    b2 = peak machineArith (ps cf) → q2 = q + (((s.cfg.bins : Int) - b2) % s.cfg.bins).toNat * s.cfg.os →
    ((∃ w, w < r ∧ s.avail < q + w * s.cfg.ns + s.cfg.ns) → examine machineArith s.cfg (window s s.cfg.ns) q = none) ∧
    ((∀ w, w < r → q + w * s.cfg.ns + s.cfg.ns ≤ s.avail) → examine machineArith s.cfg (window s s.cfg.ns) q
      = if steady then (fineTiming machineArith s.cfg (window s s.cfg.ns) q2 cf).map
          fun (d : Int) => some ((q2 : Int) + d, cf, snrEst machineArith s.cfg.bins (ps cf) b2)
        else some none)

/-- SYNC_MATCH (41 R129 to R134). The first of the windows `n_pre - 2 .. n_pre + 1` whose conjugated path has the larger peak power
decides, whatever samples of the later ones are there: the sync word, then the CFO bound, then `lock`. Without such a window,
SyncNotFound. Where a window that the evaluation reaches is not there yet, hold or end of stream (`last` is the index it needs).
The row acts in every PHASE and whatever CFG.inject
holds (log 16); NUM and the order of sums are logs 7, 8. -/
def Obligations.SyncMatchTestsInOrder : Prop :=
  ∀ (s fail1 fail2 : State) (cf : Rat) (pw : Bool → Int → List Rat) (top : Bool → Nat → Rat) (a e0 e1 c start : Nat → Int)
    (first : Option Nat) (last : Int),
    cf = s.cand.cfoFrac → 2 ≤ s.cfg.nPre → 0 ≤ a 0 →
    (∀ cj x, pw cj x = (spectrum machineArith s.cfg cj cf
      ((List.range s.cfg.ns).map fun m => sampleAt s (x.toNat + m))).map machineArith.abs2) →
    (∀ i, a i = s.cand.q2 + ((s.cfg.nPre - 2 + i) * s.cfg.ns : Nat)) →
    (∀ cj i, top cj i = realAt machineArith (pw cj (a i)) (peak machineArith (pw cj (a i)))) →
    (∀ i, e0 i = sgnN s.cfg.bins ((peak machineArith (pw true (a i)) : Int) - s.cfg.s0)) →
    (∀ i, e1 i = sgnN s.cfg.bins ((peak machineArith (pw true (a i + s.cfg.ns)) : Int) - s.cfg.s1)) →
    (∀ i, c i = -((e0 i + 1) / 2)) →
    (∀ i, start i = a i + c i * s.cfg.os + 2 * s.cfg.ns + (s.cfg.ns / 4 : Nat)) →
    fail1 = { s with
      err := s.err ||| 0x2#32, lastErr := 1, notfoundCount := s.notfoundCount + 1
      sync := { s.sync with locked := false }, p := s.p + s.cfg.ns
      phase := nextPhase { s with notfoundCount := s.notfoundCount + 1 } } →
    fail2 = { fail1 with err := s.err ||| 0x4#32, lastErr := 2 } →
    first = (List.range 4).find? (fun i => decide (top false i < top true i)) →
    last = (match first with
      | some i => a i + 2 * s.cfg.ns
      | none => a 3 + s.cfg.ns) →
    (last ≤ s.avail → (∀ i, first = some i → 0 ≤ start i) → exec .syncMatch s = .next
      (match first with
       | none => fail1
       | some i =>
         if 1 < circdist s.cfg.bins (e0 i) (e1 i) then fail1
         else if s.cfg.cfoMax ≠ 0 ∧ (s.cfg.cfoMax : Rat) < |(c i : Rat) + cf| then fail2
         else lockOn (c i) cf ((start i - s.p) % s.cfg.ns).toNat s.cand.snrDb (start i).toNat s)) ∧
    (s.avail < last →
      (s.eos = false → exec .syncMatch s = .next s) ∧
      (s.eos = true → exec .syncMatch s = .next { s with sync := { s.sync with locked := false }, phase := .done }))

/-- One attempt reads only windows inside `[P, P + (search_win + 4)*Ns)` (41 R136): two stores that agree there give the same
search and the same sync result. -/
def Obligations.AttemptReadsBoundedSpan : Prop :=
  ∀ (R C : Type) (A : Arith R C) (c : Csr) (cfg : Cfg) (p : Nat) (rd rd' : Nat → Option (List Cx)),
    configOk c = true → cfg = freeze c →
    (∀ a, p ≤ a → a + cfg.ns ≤ p + (cfg.searchWin + 4) * cfg.ns → rd a = rd' a) →
    searchAttempt A cfg rd p = searchAttempt A cfg rd' p ∧
    ∀ q2 cf snr, searchAttempt A cfg rd p = some (some (q2, cf, snr)) →
      syncAttempt A cfg rd p q2 cf = syncAttempt A cfg rd' p q2 cf

/-- DEMOD_SYMBOL of both phases (42 R150): the injected bin, or the peak of the corrected spectrum, is appended with its
diagnostics and SYMPOS moves on one window; without the window it holds, or drops the frame at end of stream. The model's part: a
row acts by the phase it names whatever PHASE holds, so a full block goes to that phase's next one, where R150 reads PHASE (log 16,
DESIGN CHOICE); NUM is the instance's (log 7) and sums run in the rule's order (log 8); an injected bin is a number (log 21). -/
def Obligations.DemodSymbolAppendsOneBin : Prop :=
  ∀ (s : State) (i : Instr) (full : Phase),
    (i = .demodSymbolHdr ∧ full = .hdrDecode) ∨ (i = .demodSymbolPay ∧ full = .payDecode) →
    (s.avail < s.sympos + s.cfg.wlen → s.eos = false → exec i s = .next s) ∧
    (s.avail < s.sympos + s.cfg.wlen → s.eos = true → exec i s = .next
      { s with
        err := s.err ||| 0x40#32
        lastErr := 6
        sync := { s.sync with locked := false }
        hdrf := { s.hdrf with valid := false }
        phase := .done }) ∧
    (s.sympos + s.cfg.wlen ≤ s.avail → ∀ (d : Diag) (win : List Cx) (pk : List Rat),
      win = ((List.range s.cfg.wlen).map fun m => sampleAt s (s.sympos + m)) →
      pk = intCorrect machineArith s.cfg.bins s.sync.cfoInt (spectrum machineArith s.cfg false s.sync.cfoFrac win) →
      (s.cfg.inject = true → s.cfg.wlen = 1 ∧ d = ⟨binOf (sampleAt s s.sympos), .fin 0, 0⟩) →
      (s.cfg.inject = false →
        d = ⟨peak machineArith pk, peakToSecond machineArith s.cfg.bins pk (peak machineArith pk), windowEnergy machineArith win⟩) →
      exec i s = .next
        { s with
          symbuf := s.symbuf ++ [d.kHat]
          diag := s.diag ++ [d]
          sympos := s.sympos + s.cfg.wlen
          phase := if s.symbuf.length + 1 = s.blklen then full else s.phase })

/-! ### Header and payload -/

/-- HEADER_DECODE (44 R186), its tests in the order of R185. -/
def Obligations.HeaderDecodeTestsInOrder : Prop :=
  ∀ (s : State) (cw : List Nat) (h : Nat → Nib × HamStatus) (len : BitVec 8) (cr : BitVec 3) (crc : Bool) (abort : State),
    s.symbuf.length = 8 → 7 ≤ s.cfg.sf →
    cw = deinterleave (s.cfg.sf - 2) (s.symbuf.map (symval s.cfg.bins s.cfg.sf (s.cfg.sf - 2))) →
    (∀ r, h r = hamDec8 (cw.getD r 0)) →
    len = (h 0).1 ++ (h 1).1 → cr = (h 2).1.extractLsb' 1 3 → crc = (h 2).1.getLsbD 0 →
    abort = { s with
      abortCount := s.abortCount + 1, sync := { s.sync with locked := false }, p := s.sympos, symbuf := []
      phase := nextPhase { s with abortCount := s.abortCount + 1 } } →
    ((∃ r, r < 4 ∧ (h r).2 = .uncorrectable) → exec .headerDecode s = .next
      { abort with hdrf := ⟨0, 0, false, false, false⟩, err := s.err ||| 0x10#32, lastErr := 4 }) ∧
    ((∀ r, r < 4 → (h r).2 ≠ .uncorrectable) →
      (hdrChk (h 0).1 (h 1).1 (h 2).1 ≠ (h 3).1 → exec .headerDecode s = .next
        { abort with hdrf := ⟨len, cr, crc, false, false⟩, err := s.err ||| 0x8#32, lastErr := 3 }) ∧
      (hdrChk (h 0).1 (h 1).1 (h 2).1 = (h 3).1 →
        (cr.toNat < 1 ∨ 4 < cr.toNat → exec .headerDecode s = .next
          { abort with hdrf := ⟨len, cr, crc, true, false⟩, err := s.err ||| 0x100#32, lastErr := 8 }) ∧
        (1 ≤ cr.toNat → cr.toNat ≤ 4 → exec .headerDecode s = .next
          { s with
            hdrf := ⟨len, cr, crc, true, true⟩
            need := 2 * (len.toNat + if crc then 2 else 0)
            nib := []
            hamUnc := 0
            symbuf := []
            blklen := cr.toNat + 4
            phase := if len = 0 ∧ crc = false then .dewhiten else .payDemod })))

/-- A header sent as 44 R183 to R186 reads it is received although one of its eight symbols is wrong in any way: the diagonal
interleaver spreads the error over the rows, one bit in each (43 R162), and HAM_DEC8 corrects one bit (R167). The payload is set up from the fields (48 R226). -/
def Obligations.HeaderSurvivesOneWrongSymbol : Prop :=
  ∀ (s : State) (len : BitVec 8) (cr : BitVec 3) (crc : Bool) (h0 h1 h2 : Nib) (rows : List Nat) (bad : Nat),
    CoreInv s → s.phase = .hdrDecode → 1 ≤ cr.toNat → cr.toNat ≤ 4 →
    h0 = len.extractLsb' 4 4 → h1 = len.extractLsb' 0 4 → h2 = cr ++ BitVec.ofBool crc →
    rows.length = s.cfg.sf - 2 → (∀ r ∈ rows, r < 256) →
    rows.take 4 = [hamEnc 4 h0, hamEnc 4 h1, hamEnc 4 h2, hamEnc 4 (hdrChk h0 h1 h2)] →
    (∀ i, i < 8 → i ≠ bad →
      symval s.cfg.bins s.cfg.sf (s.cfg.sf - 2) (s.symbuf.getD i 0) = (interleave 8 rows).getD i 0) →
    ∃ t, exec .headerDecode s = .next t ∧ t.hdrf = ⟨len, cr, crc, true, true⟩ ∧ t.err = s.err ∧
      t.need = 2 * (len.toNat + if crc then 2 else 0) ∧ t.blklen = cr.toNat + 4 ∧ t.nib = [] ∧ t.symbuf = [] ∧ t.hamUnc = 0 ∧
      t.phase = (if len = 0 ∧ crc = false then .dewhiten else .payDemod)

/-- PAYLOAD_BLOCK_DECODE (45 R192, R193): the rows in order until NEED nibbles are there; an uncorrectable row is counted and
reported and its nibble kept. -/
def Obligations.PayloadBlockAppendsNibbles : Prop :=
  ∀ (s : State) (cr : Nat) (dec : List (Nib × HamStatus)) (unc : Nat),
    cr = s.hdrf.codingRate.toNat → s.nib.length ≤ s.need → s.symbuf.length = cr + 4 →
    dec = ((deinterleave s.cfg.sfAppPay (s.symbuf.map (symval s.cfg.bins s.cfg.sf s.cfg.sfAppPay))).take
      (s.need - s.nib.length)).map (fun c => hamDec c cr) →
    unc = dec.countP (fun d => d.2 = .uncorrectable) →
    exec .payloadBlockDecode s = .next
      { s with
        nib := s.nib ++ dec.map Prod.fst
        hamUnc := s.hamUnc + unc
        symbuf := []
        err := if 0 < unc then s.err ||| 0x200#32 else s.err
        lastErr := if 0 < unc then 9 else s.lastErr
        phase := if s.nib.length + dec.length < s.need then .payDemod else .dewhiten }

/-- DEWHITEN (46 R203): the nibbles pair into bytes, high nibble first, and the first `payload_length` bytes are XORed with the
PN9 bytes from the seed 0x1FF. In a run `payload_length` is at most NEED/2; where it is not, BYTES and LFSR are as log 14 chooses. -/
def Obligations.DewhitenXorsPayloadBytes : Prop :=
  ∀ s : State, s.nib.length = s.need → s.hdrf.payloadLength.toNat ≤ s.need / 2 →
    ∃ (bytes : List Byte) (lfsr : BitVec 9),
      exec .dewhiten s = .next { s with bytes := bytes, lfsr := lfsr, phase := .crc } ∧
      lfsr = (fun l => (pn9Byte l).2)^[s.hdrf.payloadLength.toNat] 0x1FF ∧
      bytes.length = s.need / 2 ∧
      ∀ t, t < s.need / 2 → bytes.getD t 0 = (s.nib.getD (2 * t) 0 ++ s.nib.getD (2 * t + 1) 0) ^^^
        (if t < s.hdrf.payloadLength.toNat then (pn9Byte ((fun l => (pn9Byte l).2)^[t] 0x1FF)).1 else 0)

/-- Dewhitening is self-inverse (46 R204). Where `k` is above the length of the list it rests on the model's choice that `whiten` appends
nothing (log 14). -/
def Obligations.WhiteningIsSelfInverse : Prop :=
  ∀ (k : Nat) (bs : List Byte), (whiten k 0x1FF (whiten k 0x1FF bs).1).1 = bs

/-- PN9_STEP and PN9_BYTE on LFSR (46 R200, R201), the first bytes from the seed, and the register after byte 4. -/
def Obligations.Pn9StepsAndBytes : Prop :=
  (∀ s : State,
    exec .pn9Step s = .next
      { s with
        ret := .bit (s.lfsr.getLsbD 0)
        lfsr := (s.lfsr >>> 1) ||| (if s.lfsr.getLsbD 0 ^^ s.lfsr.getLsbD 5 then 0x100#9 else 0) } ∧
    ∃ (b : Byte), exec .pn9Byte s = .next { s with ret := .bytes [b], lfsr := (fun l => (pn9Step l).2)^[8] s.lfsr } ∧
      ∀ k, k < 8 → b.getLsbD (7 - k) = ((fun l => (pn9Step l).2)^[k] s.lfsr).getLsbD 0) ∧
  (List.range 16).map (fun t => (pn9Byte ((fun l => (pn9Byte l).2)^[t] 0x1FF)).1) =
    [0xFF, 0x87, 0xB8, 0x59, 0xB7, 0xA1, 0xCC, 0x24, 0x57, 0x5E, 0x4B, 0x9C, 0x0E, 0xE9, 0xEA, 0x50] ∧
  (fun l => (pn9Byte l).2)^[4] 0x1FF = 0x1ED#9

/-- CRC_CHECK (47 R208). -/
def Obligations.CrcCheckComparesAndGoesOn : Prop :=
  ∀ (s : State) (len : Nat), len = s.hdrf.payloadLength.toNat →
    (s.hdrf.hasCrc = false → exec .crcCheck s = .next
      { s with crcRx := 0, crcCalc := 0, crcChecked := false, crcOk := true, phase := .emit }) ∧
    (s.hdrf.hasCrc = true → s.bytes.length = len + 2 → ∀ (rx own : BitVec 16),
      rx = (s.bytes.getD (len + 1) 0) ++ (s.bytes.getD len 0) → own = loraCrc (s.bytes.take len) →
      exec .crcCheck s = .next
        { s with
          crcRx := rx
          crcCalc := own
          crcChecked := true
          crcOk := decide (rx = own)
          err := if rx = own then s.err else s.err ||| 0x20#32
          lastErr := if rx = own then s.lastErr else 5
          phase := .emit })

/-- The CRC's properties (47 R212): a payload with its own CRC appended verifies, and with any one payload byte altered (one bit
or more of it) it does not, and the mismatch is reported. -/
def Obligations.CrcAcceptsOwnAndDetectsOneByte : Prop :=
  ∀ (s : State) (d : List Byte) (lo hi : Byte), s.hdrf.hasCrc = true → s.hdrf.payloadLength.toNat = d.length →
    loraCrc d = hi ++ lo →
    (s.bytes = d ++ [lo, hi] → ∃ t, exec .crcCheck s = .next t ∧ t.crcOk = true ∧ t.crcChecked = true ∧ t.err = s.err) ∧
    ∀ (i : Nat) (x : Byte), i < d.length → x ≠ 0 → s.bytes = d.set i (d.getD i 0 ^^^ x) ++ [lo, hi] →
      ∃ t, exec .crcCheck s = .next t ∧ t.crcOk = false ∧ t.crcChecked = true ∧ t.err = s.err ||| 0x20#32

/-- The CRC rows (47 R205 to R207): CRC16 shifts each byte in from the left with the polynomial 0x1021, LORA_CRC XORs the last two
bytes in, and the worked examples of the spec. -/
def Obligations.CrcRows : Prop :=
  (∀ s : State,
    exec .crc16 s = .next { s with ret := .crc (crc16 (s.call.nats.map (BitVec.ofNat 8))) } ∧
    exec .loraCrc s = .next { s with ret := .crc (loraCrc (s.call.nats.map (BitVec.ofNat 8))) } ∧
    (s.hdrf.payloadLength.toNat + 2 ≤ s.bytes.length → exec .crcRx s = .next
      { s with ret := .crc ((s.bytes.getD (s.hdrf.payloadLength.toNat + 1) 0)
        ++ (s.bytes.getD s.hdrf.payloadLength.toNat 0)) })) ∧
  crc16 [] = 0 ∧
  (∀ (d : List Byte) (b : Byte), crc16 (d ++ [b]) =
    (fun c : BitVec 16 => if c.getLsbD 15 then (c <<< 1) ^^^ 0x1021 else c <<< 1)^[8] (crc16 d ^^^ (b ++ 0#8))) ∧
  (∀ (d : List Byte) (a b : Byte), loraCrc (d ++ [a, b]) = crc16 d ^^^ (a ++ b)) ∧
  loraCrc [] = 0 ∧ (∀ b : Byte, loraCrc [b] = 0#8 ++ b) ∧
  crc16 [0x31, 0x32, 0x33, 0x34, 0x35, 0x36, 0x37, 0x38, 0x39] = 0x31C3 ∧
  loraCrc [0x31, 0x32, 0x33, 0x34, 0x35, 0x36, 0x37, 0x38, 0x39] = 0xBEEF ∧
  loraCrc [0xDE, 0xAD, 0x42] = 0x87F1

/-- EMIT_FRAME (48 R233) holds on a full FIFO, else pushes the record of the frame in progress and resumes the search; in a run
the record carries NSYM diagnostics and the next search starts at `HDR_START + NSYM*WLEN` (48 R230).
The model's part: full is `FRAME_FIFO_DEPTH` records or more, where R233 has `len(FIFO) = FRAME_FIFO_DEPTH` (log 22, DEDUCED); the row
acts in every PHASE (log 16). -/
def Obligations.EmitPushesTheFrame : Prop :=
  ∀ s : State,
    (s.inst.fifoDepth ≤ s.fifo.length → exec .emitFrame s = .next s) ∧
    (s.fifo.length < s.inst.fifoDepth → ∃ f : Frame,
      f = { payloadLength := s.hdrf.payloadLength, codingRate := s.hdrf.codingRate, hasCrc := s.hdrf.hasCrc
            headerCrcOk := s.hdrf.headerCrcOk, crcOk := s.crcOk, crcChecked := s.crcChecked, implicit := s.cfg.implicit
            hamUnc := s.hamUnc, payloadBytes := s.bytes, cfoInt := s.sync.cfoInt, cfoFrac := s.sync.cfoFrac
            sto := s.sync.sto, snrDb := s.sync.snrDb, hdrStart := s.hdrStart, diag := s.diag } ∧
      exec .emitFrame s = .next
        { s with
          fifo := s.fifo ++ [f]
          frameCount := s.frameCount + 1
          p := s.sympos
          sync := { s.sync with locked := false }
          hdrf := { s.hdrf with valid := false }
          phase := nextPhase { s with frameCount := s.frameCount + 1 } } ∧
      (CoreInv s → s.phase = .emit → ∀ nsym, nsym = (if s.cfg.implicit then 0 else 8)
          + (s.need + s.cfg.sfAppPay - 1) / s.cfg.sfAppPay * (s.hdrf.codingRate.toNat + 4) →
        f.diag.length = nsym ∧ s.sympos = s.hdrStart + nsym * s.cfg.wlen))

/-! ### Who writes what -/

/-- Over every instruction: the sample store grows by one entry at AVAIL, while running and before EOS, or is emptied by START or
RESET, and is otherwise unchanged (20_memory R61); the RW registers change only outside a run (10_state R21); CFG is written only
by an accepted START (R48), or by RESET. -/
def Obligations.StoreAndConfigurationWriters : Prop :=
  ∀ (i : Instr) (s t : State), exec i s = .next t →
    ((t.store = s.store ∧ t.avail = s.avail) ∨
      (running s = true ∧ s.eos = false ∧ t.avail = s.avail + 1 ∧ ∃ z, t.store = s.store ++ [z]) ∨
      (t.store = [] ∧ t.avail = 0 ∧ (ResetValues t ∨ (running s = false ∧ configOk s.csr = true ∧ t.phase = .search)))) ∧
    (t.csr = s.csr ∨ running s = false ∨ ResetValues t) ∧
    (t.cfg = s.cfg ∨ (running s = false ∧ configOk s.csr = true ∧ t.cfg = freeze s.csr ∧ t.phase = .search) ∨ ResetValues t)

/-- Over every instruction: the frame FIFO loses its oldest record, whose words are delivered, or gains one at its end while it has
room, or is emptied by RESET (20_memory R78, 10_state R58). Room is fewer than
`FRAME_FIFO_DEPTH` records (log 22). -/
def Obligations.FifoKeepsOrder : Prop :=
  ∀ (i : Instr) (s t : State), exec i s = .next t →
    t.fifo = s.fifo ∨
    (∃ f, s.fifo = f :: t.fifo ∧ t.frameOut = frameWords f) ∨
    (∃ f, t.fifo = s.fifo ++ [f] ∧ s.fifo.length < s.inst.fifoDepth ∧ t.frameCount = s.frameCount + 1) ∨
    ResetValues t

/-- Over every instruction: a bit of ERR stays set, unless an accepted START or RESET clears the whole record (10_state R24). -/
def Obligations.ErrorBitsAreSticky : Prop :=
  ∀ (i : Instr) (s t : State) (c : Nat), exec i s = .next t → s.err.getLsbD c = true →
    t.err.getLsbD c = true ∨
    (t.err = 0 ∧ t.lastErr = 0 ∧ (ResetValues t ∨ (running s = false ∧ configOk s.csr = true ∧ t.phase = .search)))

/-! ### Bit-exact functions -/

/-- The symbol rows (42 R147 to R151, 30_encoding R84), and the Gray map and its inverse as bijections of `[0, 2^sf)`.
The model's part: a bin or symbol at or above `N`, and `sf_app` above `sf`, take the same formulas (log 33, DEDUCED); ports: log 6. -/
def Obligations.SymbolMapRowsAndGrayInverse : Prop :=
  (∀ (s : State) (x y : Nat), s.call.n0 = x → s.call.n1 = y →
    exec .bin2sym s = .next { s with ret := .nat ((x + s.cfg.bins - 1) % s.cfg.bins) } ∧
    exec .grayEnc s = .next { s with ret := .nat (x ^^^ (x >>> 1)) } ∧
    exec .grayDec s = .next { s with ret := .nat (grayDec s.cfg.sf x) } ∧
    exec .symReduce s = .next { s with ret := .nat (x >>> (s.cfg.sf - y)) } ∧
    exec .symval s = .next
      { s with ret := .nat (grayEnc ((x + s.cfg.bins - 1) % s.cfg.bins) >>> (s.cfg.sf - y)) }) ∧
  ∀ sf x : Nat, x < 2 ^ sf →
    grayEnc x < 2 ^ sf ∧ grayDec sf x < 2 ^ sf ∧ grayDec sf (grayEnc x) = x ∧ grayEnc (grayDec sf x) = x

/-- DEINTERLEAVE with INTER_BIN and ROW_TO_CODEWORD (43 R161 to R163): `sf_app` rows of `W` bits, bit `j` of symbol `i` (MSB first)
in row `(i - j - 1) mod sf_app`, symbol 0 in the most significant bit of its row.
The model's part: of a value wider than `sf_app` the low bits are read, and ROW_TO_CODEWORD counts every entry other than 0 as a 1
(log 33, DEDUCED); ports: log 6. -/
def Obligations.DeinterleaveFollowsTheDiagonal : Prop :=
  ∀ (s : State) (v : List Nat) (sfApp : Nat), s.call.nats = v → s.call.n0 = sfApp →
    (∃ m, exec .interBin s = .next { s with ret := .bits m } ∧ m.length = v.length ∧
      ∀ i j, i < v.length → j < sfApp → (m.getD i []).getD j false = (v.getD i 0).testBit (sfApp - 1 - j)) ∧
    (∃ cw, exec .deinterleave s = .next { s with ret := .nats cw } ∧ cw.length = sfApp ∧ (∀ c ∈ cw, c < 2 ^ v.length) ∧
      ∀ i j, i < v.length → j < sfApp →
        (cw.getD ((((i : Int) - j - 1) % (sfApp : Int)).toNat) 0).testBit (v.length - 1 - i)
          = (v.getD i 0).testBit (sfApp - 1 - j)) ∧
    (∃ c, exec .rowToCodeword s = .next { s with ret := .nat c } ∧ c < 2 ^ v.length ∧
      ∀ i, i < v.length → c.testBit (v.length - 1 - i) = decide (v.getD i 0 ≠ 0))

/-- INTERLEAVE (43 R164) and its being the exact inverse of DEINTERLEAVE, in both directions, for every `W >= 1` and every
`sf_app >= 1`.
The model's part: of a row wider than `W` the row INTERLEAVE reads the low bits (log 33, DEDUCED); ports: log 6. -/
def Obligations.InterleaverIsExactInverse : Prop :=
  (∀ (s : State) (rows : List Nat) (w : Nat), s.call.nats = rows → s.call.n0 = w →
    ∃ v, exec .interleave s = .next { s with ret := .nats v } ∧ v.length = w ∧
      ∀ i j, i < w → j < rows.length → (v.getD i 0).testBit (rows.length - 1 - j)
        = (rows.getD ((((i : Int) - j - 1) % (rows.length : Int)).toNat) 0).testBit (w - 1 - i)) ∧
  (∀ (w : Nat) (rows : List Nat), 1 ≤ rows.length → (∀ c ∈ rows, c < 2 ^ w) →
    deinterleave rows.length (interleave w rows) = rows) ∧
  (∀ (sfApp : Nat) (v : List Nat), 1 ≤ sfApp → 1 ≤ v.length → (∀ x ∈ v, x < 2 ^ sfApp) →
    interleave v.length (deinterleave sfApp v) = v)

/-- The Hamming rows (43 R165 to R171): the code tables, clean codewords, one wrong bit (corrected for `cr` 4 and 3, reported for 2
and 1), two wrong bits for `cr` 4 (reported), and HAM_DEC as the decoder that `cr` names.
The model's part: bits of a codeword above its width are not read (log 33, DEDUCED); ports: log 6. -/
def Obligations.HammingRowsEncodeAndDecode : Prop :=
  ∀ (s : State),
    (∀ (cr : Nat) (code : List Nat), (cr, code) ∈
        [(4, [0x00, 0x8B, 0x4E, 0xC5, 0x2D, 0xA6, 0x63, 0xE8, 0x17, 0x9C, 0x59, 0xD2, 0x3A, 0xB1, 0x74, 0xFF]),
         (3, [0x00, 0x45, 0x27, 0x62, 0x16, 0x53, 0x31, 0x74, 0x0B, 0x4E, 0x2C, 0x69, 0x1D, 0x58, 0x3A, 0x7F]),
         (2, [0x00, 0x22, 0x13, 0x31, 0x0B, 0x29, 0x18, 0x3A, 0x05, 0x27, 0x16, 0x34, 0x0E, 0x2C, 0x1D, 0x3F]),
         (1, [0x00, 0x11, 0x09, 0x18, 0x05, 0x14, 0x0C, 0x1D, 0x03, 0x12, 0x0A, 0x1B, 0x06, 0x17, 0x0F, 0x1E])] →
      ∀ n : Nat, n < 16 → s.call.n1 = cr →
        (s.call.n0 = n → exec .hamEnc s = .next { s with ret := .nat (code.getD n 0) }) ∧
        (s.call.n0 = code.getD n 0 → exec .hamDec s = .next { s with ret := .ham (BitVec.ofNat 4 n) .ok }) ∧
        ∀ i, i < cr + 4 → s.call.n0 = code.getD n 0 ^^^ (1 <<< i) →
          (3 ≤ cr → exec .hamDec s = .next { s with ret := .ham (BitVec.ofNat 4 n) .corrected }) ∧
          (cr ≤ 2 → exec .hamDec s = .next { s with ret := .ham (nibOf (cr + 4) s.call.n0) .uncorrectable })) ∧
    (∀ (n : Nib) (i j : Nat), i < j → j < 8 → s.call.n0 = hamEnc 4 n ^^^ (1 <<< i) ^^^ (1 <<< j) →
      exec .hamDec8 s = .next { s with ret := .ham (nibOf 8 s.call.n0) .uncorrectable }) ∧
    (∀ (cr : Nat) (row : Instr), (cr, row) ∈ [(4, Instr.hamDec8), (3, .hamDec7), (2, .hamDec6), (1, .hamDec5)] →
      (s.call.n1 = cr → exec .hamDec s = exec row s) ∧
      ∃ x st, exec row s = .next { s with ret := .ham x st })

/-- The header and length rows: NIB2BYTE (43 R172), HDR_PARSE (44 R183), HDR_CHK (44 R184), NSYM (30_encoding R89).
The model's part: NIB2BYTE of an odd count leaves the last nibble out (log 33, DEDUCED); ports: log 6. -/
def Obligations.HeaderAndLengthRows : Prop :=
  (∀ (s : State) (x : List Nib), s.call.nats = x.map (·.toNat) → ∃ bs, exec .nib2byte s = .next { s with ret := .bytes bs } ∧
    bs.length = x.length / 2 ∧ ∀ t, t < x.length / 2 → bs.getD t 0 = x.getD (2 * t) 0 ++ x.getD (2 * t + 1) 0) ∧
  (∀ (s : State) (h0 h1 h2 : Nib), s.call.n0 = h0.toNat → s.call.n1 = h1.toNat → s.call.n2 = h2.toNat →
    exec .hdrParse s = .next { s with ret := .header (h0 ++ h1) (h2.extractLsb' 1 3) (h2.getLsbD 0) } ∧
    ∃ c : Nib, exec .hdrChk s = .next { s with ret := .nat c.toNat } ∧
      c.getLsbD 3 = (h0.getLsbD 3 ^^ h1.getLsbD 3 ^^ h1.getLsbD 2 ^^ h1.getLsbD 1 ^^ h2.getLsbD 0) ∧
      c.getLsbD 2 = (h0.getLsbD 2 ^^ h1.getLsbD 3 ^^ h1.getLsbD 0 ^^ h2.getLsbD 3 ^^ h2.getLsbD 1) ∧
      c.getLsbD 1 = (h0.getLsbD 1 ^^ h1.getLsbD 2 ^^ h1.getLsbD 0 ^^ h2.getLsbD 2 ^^ h2.getLsbD 1 ^^ h2.getLsbD 0) ∧
      c.getLsbD 0 = (h0.getLsbD 0 ^^ h1.getLsbD 1 ^^ h2.getLsbD 3 ^^ h2.getLsbD 2 ^^ h2.getLsbD 1 ^^ h2.getLsbD 0)) ∧
  (∀ s : State, 1 ≤ s.cfg.sfAppPay → ∃ need nblk nsym, exec .nsym s = .next { s with ret := .symbols need nblk nsym } ∧
    need = 2 * (s.call.n0 + if s.call.flag then 2 else 0) ∧
    need ≤ nblk * s.cfg.sfAppPay ∧ nblk * s.cfg.sfAppPay < need + s.cfg.sfAppPay ∧
    nsym = (if s.cfg.implicit then 0 else 8) + nblk * (s.call.n1 + 4))

/-- `config_valid` (48 R220), the LDRO condition (00_scope R10), and the parameters that START freezes: every field that 10_state
R48 copies, with the bits of 10_state R26 to R38 it is copied from, and every derived one (00_scope R10, R48, 30_encoding R92). Ports:
log 6. -/
def Obligations.ConfigurationRowsAndDerivedParameters : Prop :=
  (∀ s : State, exec .configValid s = .next { s with ret := .bit (configOk s.csr) } ∧
    exec .ldroAuto s = .next { s with ret := .bit (decide (2 ^ s.call.n0 * 1000 > 16 * s.call.n1)) }) ∧
  ∀ c : Csr,
    (configOk c = true ↔ (7 ≤ c.sf.toNat ∧ c.sf.toNat ≤ 12) ∧ c.bw ≠ 0 ∧ (c.fs ≠ 0 ∧ c.bw.toNat ∣ c.fs.toNat) ∧
      (1 ≤ c.cr.toNat ∧ c.cr.toNat ≤ 4) ∧ c.ldroMode ≠ 3 ∧ 4 ≤ c.nPreamble.toNat ∧ c.nPreamble.toNat ≤ c.searchWin.toNat ∧
      ¬ (c.mode.getLsbD 3 = true ∧ c.mode.getLsbD 1 = true ∧ c.payloadLen = 0 ∧ c.mode.getLsbD 0 = false)) ∧
    (∀ g, g = freeze c →
      g.sf = c.sf.toNat ∧ g.bw = c.bw.toNat ∧ g.fs = c.fs.toNat ∧ g.cr = c.cr.toNat ∧
      g.v0 = c.syncWord.toNat % 256 ∧ g.v1 = c.syncWord.toNat / 256 % 256 ∧ g.two = c.syncWord.getLsbD 16 ∧
      g.hasCrc = c.mode.getLsbD 0 ∧ g.implicit = c.mode.getLsbD 1 ∧ g.decimSub = c.mode.getLsbD 2 ∧ g.inject = c.mode.getLsbD 3 ∧
      g.payloadLength = c.payloadLen.toNat ∧ g.ldroMode = c.ldroMode.toNat ∧ g.nPre = c.nPreamble.toNat ∧
      g.searchWin = c.searchWin.toNat ∧ g.cfoMax = c.cfoMax.toNat ∧ g.frameLimit = c.frameLimit.toNat ∧
      g.attemptLimit = c.attemptLimit.toNat) ∧
    (configOk c = true → ∀ g, g = freeze c →
      g.bins = 2 ^ g.sf ∧ 1 ≤ g.os ∧ g.os * c.bw.toNat = c.fs.toNat ∧ g.ns = g.os * g.bins ∧
      (g.ldro = true ↔ c.ldroMode = 1 ∨ (c.ldroMode = 2 ∧ g.bins * 1000 > 16 * c.bw.toNat)) ∧
      g.sfAppHdr = g.sf - 2 ∧ g.sfAppPay = (if g.ldro then g.sf - 2 else g.sf) ∧
      g.wlen = (if g.inject then 1 else g.ns) ∧
      (c.syncWord.getLsbD 16 = true → g.s0 = c.syncWord.toNat % 256 % g.bins ∧ g.s1 = c.syncWord.toNat / 256 % 256 % g.bins) ∧
      (c.syncWord.getLsbD 16 = false → g.s0 = c.syncWord.toNat / 16 % 16 * 8 % g.bins ∧
        g.s1 = c.syncWord.toNat % 16 * 8 % g.bins))

/-- FRAME_WORDS (30_encoding R94): the length in words, the fields of W0 and W1, and every payload byte and bin at its place. The
rounding to binary32 (`toF32`, `extF32`) is the model's (log 18, PRESUMED); that W4 is the low 32 bits of a `sto` of any size is the
model's (log 19, DEDUCED).
That the word of a bin is the low 32 bits of a `k_hat` of any size is the model's (log 33, DEDUCED); ports: log 6. -/
def Obligations.FrameWordsLayout : Prop :=
  ∀ (s : State) (f : Frame), s.call.frame = f → ∃ ws, exec .frameWords s = .next { s with ret := .words ws } ∧
    ws.length = 8 + (f.payloadBytes.length + 3) / 4 + 3 * f.diag.length ∧
    (f.payloadBytes.length ≤ 257 → f.diag.length ≤ 832 → f.hamUnc ≤ 514 →
      (ws.getD 0 0).toNat = f.payloadLength.toNat + 2 ^ 8 * f.codingRate.toNat + 2 ^ 11 * f.hasCrc.toNat
        + 2 ^ 12 * f.headerCrcOk.toNat + 2 ^ 13 * f.crcOk.toNat + 2 ^ 14 * f.crcChecked.toNat + 2 ^ 15 * f.implicit.toNat
        + 2 ^ 16 * f.payloadBytes.length ∧
      (ws.getD 1 0).toNat = f.diag.length + 2 ^ 16 * f.hamUnc) ∧
    (ws.drop 2).take 6 = [BitVec.ofInt 32 f.cfoInt, toF32 f.cfoFrac, BitVec.ofNat 32 f.sto, extF32 f.snrDb,
      BitVec.ofNat 32 f.hdrStart, BitVec.ofNat 32 (f.hdrStart / 2 ^ 32)] ∧
    (∀ t, t < 4 * ((f.payloadBytes.length + 3) / 4) →
      (ws.getD (8 + t / 4) 0).extractLsb' (8 * (t % 4)) 8 = f.payloadBytes.getD t 0) ∧
    (∀ k d, f.diag[k]? = some d → (ws.drop (8 + (f.payloadBytes.length + 3) / 4 + 3 * k)).take 3
      = [BitVec.ofNat 32 d.kHat, extF32 d.p2sDb, toF32 d.energy])

/-! ### Numeric functions -/

/-- `peak` (00_scope R17, 42 R146): the lowest index of the largest value. Of an empty list both rows answer one free index, the
model's choice (log 32). Ports: log 6. -/
def Obligations.PeakIsLowestArgmax : Prop :=
  ∀ (s : State) (l : List Rat), s.call.reals = l →
    ∃ k, exec .peak s = .next { s with ret := .nat k } ∧ exec .argmaxPeak s = .next { s with ret := .nat k } ∧
      (l = [] → k = Config.noPeak) ∧
      (l ≠ [] → k < l.length ∧ (∀ i, i < l.length → l.getD i 0 ≤ l.getD k 0) ∧ ∀ i, i < k → l.getD i 0 < l.getD k 0)

/-- The bin rows: CIRCDIST (00_scope R15), SYNC_WORD_MATCH (41 R131), CFO_INT (R132), CFO_RANGE_CHECK (R133), HDR_START_STO (R134),
SYNC_SYMBOLS (30_encoding R92), COARSE_ALIGN (41 R126), and the ranges the rules give them.
The model's part: bins at or above `N` take the same formulas (log 33, DEDUCED); ports: log 6. -/
def Obligations.BinRowsAndRanges : Prop :=
  (∀ s : State,
    exec .circdist s = .next { s with ret := .nat (circdist s.cfg.bins s.call.z0 s.call.z1) } ∧
    (∃ e0 e1 ok, exec .syncWordMatch s = .next { s with ret := .syncMatch e0 e1 ok } ∧
      e0 = sgnN s.cfg.bins ((s.call.n0 : Int) - s.cfg.s0) ∧ e1 = sgnN s.cfg.bins ((s.call.n1 : Int) - s.cfg.s1) ∧
      (ok = true ↔ circdist s.cfg.bins e0 e1 ≤ 1)) ∧
    (∃ c, exec .cfoInt s = .next { s with ret := .int c } ∧ c = -((s.call.z0 + 1) / 2)) ∧
    (∃ b, exec .cfoRangeCheck s = .next { s with ret := .bit b } ∧
      (b = true ↔ s.cfg.cfoMax ≠ 0 ∧ (s.cfg.cfoMax : Rat) < |(s.call.z0 : Rat) + s.call.real|)) ∧
    (∀ start : Nat, (start : Int) = s.call.z1 + s.call.z0 * s.cfg.os + 2 * s.cfg.ns + (s.cfg.ns / 4 : Nat) →
      exec .hdrStartSto s = .next { s with ret := .hdrStart start (((start : Int) - s.p) % s.cfg.ns).toNat }) ∧
    (∀ l : List Nat, l = (if s.cfg.two then [s.cfg.v0 % s.cfg.bins, s.cfg.v1 % s.cfg.bins]
        else [s.cfg.v0 / 16 * 8 % s.cfg.bins, s.cfg.v0 % 16 * 8 % s.cfg.bins]) →
      exec .syncSymbols s = .next { s with ret := .nats l }) ∧
    exec .coarseAlign s = .next
      { s with ret := .nat (s.call.n0 + (((s.cfg.bins : Int) - s.call.n1) % s.cfg.bins).toNat * s.cfg.os) }) ∧
  ∀ (n : Nat) (a b v : Int), 0 < n → n % 4 = 0 →
    2 * circdist n a b ≤ n ∧ (circdist n a b : Int) = min ((a - b) % n) ((b - a) % n) ∧ circdist n a b = circdist n b a ∧
    (-(n : Int) ≤ 2 * sgnN n v ∧ 2 * sgnN n v < n ∧ (n : Int) ∣ v - sgnN n v) ∧
    (-((n / 4 : Nat) : Int) ≤ cfoIntOf (sgnN n v) ∧ cfoIntOf (sgnN n v) ≤ ((n / 4 : Nat) : Int))

/-- The exactness property (42 R153), over exact real arithmetic: the dechirped tone of bin `k` demodulates to `k`, for every
`k < N`, every spreading factor, every oversampling and both ways of decimating; so does the symbol `up(k)` of 41 R120 with one or
two samples a chip, or with SUBSAMPLE (with three or more and SUM it does not, R142). The exact arithmetic is a reference beside the
machine's (log 23). -/
def Obligations.ExactDemodulatorReturnsTheBin : Prop :=
  ∀ (cfg : Cfg) (k : Nat), 7 ≤ cfg.sf → cfg.sf ≤ 12 → cfg.bins = 2 ^ cfg.sf → 1 ≤ cfg.os → cfg.ns = cfg.os * cfg.bins →
    k < cfg.bins →
    peak exactArith (intCorrect exactArith cfg.bins 0
      (correlate exactArith cfg false (0 : ℝ) (toneWindow cfg.bins cfg.os k))) = k ∧
    (cfg.os ≤ 2 ∨ cfg.decimSub = true →
      peak exactArith (intCorrect exactArith cfg.bins 0
        (correlate exactArith cfg false (0 : ℝ) (upSymbol cfg.bins cfg.os k))) = k)

/-- The estimators of PHASE SEARCH: STABLE (41 R123); FRAC_CFO (R124), spelled out over the machine's NUM, with its range on exact
reals; SNR_EST (R125) with the median of the other `N - 1` bins. A row answers the function that PREAMBLE_SEARCH uses (ports: log
6); `D` is summed in the order of `w` (log 8); a value that an operand does not hold is free (`realAt`, `cxAt`, log 32). STABLE and FRAC_CFO
take as many windows as their operands hold (log 34, DESIGN CHOICE). -/
def Obligations.EstimatorRows : Prop :=
  (∀ s : State,
    (∃ b, exec .stable s = .next { s with ret := .bit b } ∧
      (b = true ↔ ∀ w, w < s.call.nats.length →
        0 < realAt machineArith (s.call.powers.getD w []) (s.call.nats.getD w 0) ∧
        circdist s.cfg.bins (s.call.nats.getD w 0 : Int) (s.call.nats.getD 0 0 : Int) ≤ 1)) ∧
    exec .fracCfo s = .next { s with ret := .real (fracCfo machineArith s.call.spectra s.call.n0) } ∧
    exec .snrEst s = .next { s with ret := .ext (snrEst machineArith s.cfg.bins s.call.reals s.call.n0) }) ∧
  (∀ (ys : List (List Cx)) (bb : Nat) (v term : Nat → Cx) (d : Cx),
    (∀ w, v w = cxAt machineArith (ys.getD w []) bb) →
    (∀ w, term w = machineArith.cmul (v (w + 1)) ⟨(v w).re, -(v w).im⟩) →
    d = (if ys.length < 2 then ⟨0, 0⟩
      else (List.range (ys.length - 2)).foldl (fun acc w => machineArith.cadd acc (term (w + 1))) (term 0)) →
    fracCfo machineArith ys bb
      = if d = ⟨0, 0⟩ then 0 else if machineArith.arg d = 1 / 2 then -1 / 2 else machineArith.arg d) ∧
  (∀ (n b2 : Nat) (pc : List Rat), ∃ sorted : List Rat, sorted.Pairwise (· ≤ ·) ∧
    sorted.Perm (((List.range n).filter fun k => decide (k ≠ b2)).map (realAt machineArith pc)) ∧
    (realAt machineArith sorted ((n - 2) / 2) = 0 → snrEst machineArith n pc b2 = .posInf) ∧
    (realAt machineArith sorted ((n - 2) / 2) ≠ 0 → snrEst machineArith n pc b2
      = .fin (10 * machineArith.log10 (realAt machineArith pc b2 / realAt machineArith sorted ((n - 2) / 2))))) ∧
  ∀ (ys : List (List ℂ)) (bb : Nat), -(1 / 2) ≤ fracCfo exactArith ys bb ∧ fracCfo exactArith ys bb < 1 / 2

/-- The correlator rows (40 R110 to R112, 41 R127, R130, 42 R141 to R145, R152) entry by entry over the machine's NUM (log 7), each
answering the function that the operations of the phases use (ports: log 6). DECIMATE sums in index order, from the first term on
(log 8); a value that an operand list does not hold is free (`realAt`, `cxAt`, log 32). Those that read samples are stated where
their windows are below AVAIL; the premises on `Ns` and `os` hold of every frozen configuration. Entries beyond those that a
rule reads are not read (log 34). -/
def Obligations.CorrelatorRows : Prop :=
  (∀ z : Cx, machineArith.conj z = ⟨z.re, -z.im⟩) ∧
  ∀ s : State,
    (∃ c, exec .chirpUp s = .next { s with ret := .cplx c } ∧ c.length = s.cfg.bins ∧ ∀ n, n < s.cfg.bins →
      c.getD n ⟨0, 0⟩ = machineArith.cexp ((n : Rat) ^ 2 / (2 * s.cfg.bins) - (n : Rat) / 2)) ∧
    (∃ c, exec .chirpDown s = .next { s with ret := .cplx c } ∧ c.length = s.cfg.bins ∧ ∀ n, n < s.cfg.bins →
      c.getD n ⟨0, 0⟩ = machineArith.conj (machineArith.cexp ((n : Rat) ^ 2 / (2 * s.cfg.bins) - (n : Rat) / 2))) ∧
    (∃ u d, exec .chirpRefOs s = .next { s with ret := .tables u d } ∧ d = u.map machineArith.conj ∧
      u.length = s.cfg.os * s.cfg.bins ∧ ∀ m, m < s.cfg.os * s.cfg.bins → u.getD m ⟨0, 0⟩
        = machineArith.cexp (((m : Rat) / s.cfg.os) ^ 2 / (2 * s.cfg.bins) - ((m : Rat) / s.cfg.os) / 2)) ∧
    (∃ z, exec .cfoFracCorrect s = .next { s with ret := .cplx z } ∧ z.length = s.call.cplx.length ∧
      ∀ m, m < s.call.cplx.length → z.getD m ⟨0, 0⟩ = machineArith.cmul (s.call.cplx.getD m ⟨0, 0⟩)
        (machineArith.cexp (s.call.real * -((m : Rat) / s.cfg.ns)))) ∧
    (∃ y, exec .decimate s = .next { s with ret := .cplx y } ∧ y.length = s.cfg.bins ∧
      (s.cfg.decimSub = true ∨ s.cfg.os = 1 → ∀ n, n < s.cfg.bins →
        y.getD n ⟨0, 0⟩ = cxAt machineArith s.call.cplx (n * s.cfg.os)) ∧
      (s.cfg.decimSub = false → 1 ≤ s.cfg.os → ∀ n, n < s.cfg.bins → y.getD n ⟨0, 0⟩
        = (List.range (s.cfg.os - 1)).foldl
            (fun acc q => machineArith.cadd acc (cxAt machineArith s.call.cplx (n * s.cfg.os + (q + 1))))
            (cxAt machineArith s.call.cplx (n * s.cfg.os)))) ∧
    exec .dft s = .next
      { s with ret := .cplx ((List.range s.cfg.bins).map fun k => machineArith.fft s.cfg.bins s.call.cplx k) } ∧
    (∃ pk, exec .cfoIntCorrect s = .next { s with ret := .reals pk } ∧ pk.length = s.cfg.bins ∧
      ∀ k, k < s.cfg.bins → pk.getD k 0
        = machineArith.abs2 (cxAt machineArith s.call.cplx (((k : Int) + s.call.z0) % s.cfg.bins).toNat)) ∧
    -- DECHIRP_FFT: rotate by `cf`, conjugate on the conjugated path, dechirp with C_down, decimate, transform
    (s.call.n0 + s.cfg.ns ≤ s.avail → exec .dechirpFft s = .next
      { s with ret := .cplx (spectrum machineArith s.cfg s.call.flag s.call.real
        ((List.range s.cfg.ns).map fun m => sampleAt s (s.call.n0 + m))) }) ∧
    (∀ (x z : Nat → Cx) (y : List Cx), s.cfg.ns = s.cfg.os * s.cfg.bins → 1 ≤ s.cfg.os →
      (∀ m, x m = machineArith.cmul (sampleAt s (s.call.n0 + m)) (machineArith.cexp (s.call.real * -((m : Rat) / s.cfg.ns)))) →
      (∀ m, z m = machineArith.cmul (if s.call.flag then ⟨(x m).re, -(x m).im⟩ else x m) (machineArith.conj
        (machineArith.cexp (((m : Rat) / s.cfg.os) ^ 2 / (2 * s.cfg.bins) - ((m : Rat) / s.cfg.os) / 2)))) →
      y = (List.range s.cfg.bins).map (fun n => if s.cfg.decimSub then z (n * s.cfg.os)
        else (List.range (s.cfg.os - 1)).foldl (fun acc q => machineArith.cadd acc (z (n * s.cfg.os + (q + 1)))) (z (n * s.cfg.os))) →
      spectrum machineArith s.cfg s.call.flag s.call.real ((List.range s.cfg.ns).map fun m => sampleAt s (s.call.n0 + m))
        = (List.range s.cfg.bins).map fun k => machineArith.fft s.cfg.bins y k) ∧
    -- DIAGNOSTICS: 0 and 0 in INJECT mode; else the three cases of `p2s_db`, with the largest of the other powers, and the energy
    (s.cfg.inject = true → exec .diagnostics s = .next { s with ret := .diag ⟨s.call.n0, .fin 0, 0⟩ }) ∧
    (s.cfg.inject = false → s.call.n1 + s.cfg.ns ≤ s.avail →
      ∀ (top : Rat) (others : List Rat), top = realAt machineArith s.call.reals s.call.n0 →
      others = ((List.range s.cfg.bins).filter fun k => decide (k ≠ s.call.n0)).map (realAt machineArith s.call.reals) →
      ∃ (p2s : Ext Rat) (energy : Rat), exec .diagnostics s = .next { s with ret := .diag ⟨s.call.n0, p2s, energy⟩ } ∧
        p2s = peakToSecond machineArith s.cfg.bins s.call.reals s.call.n0 ∧
        energy = windowEnergy machineArith ((List.range s.cfg.ns).map fun m => sampleAt s (s.call.n1 + m)) ∧
        energy = ((List.range s.cfg.ns).map fun m => machineArith.abs2 (sampleAt s (s.call.n1 + m))).sum ∧
        (top = 0 → p2s = .fin 0) ∧
        (top ≠ 0 → ∀ second, second ∈ others → (∀ v ∈ others, v ≤ second) →
          (second = 0 → p2s = .posInf) ∧ (second ≠ 0 → p2s = .fin (10 * machineArith.log10 (top / second))))) ∧
    -- FINE_TIMING: the smallest offset with the largest bin-0 power of the windows `1 .. R-2`
    ((s.call.n0 + s.cfg.os / 2 + (s.cfg.nPre - 2) * s.cfg.ns ≤ s.avail → ∀ m : Int → Rat,
        (∀ d, m d = ((List.range (s.cfg.nPre - 3)).map fun w => machineArith.abs2 (cxAt machineArith (spectrum machineArith s.cfg false s.call.real
          ((List.range s.cfg.ns).map fun i => sampleAt s (((s.call.n0 : Int) + d + ((w + 1) * s.cfg.ns : Nat)).toNat + i))) 0)).sum) →
        ∃ d : Int, exec .fineTiming s = .next { s with ret := .int d } ∧
          fineTiming machineArith s.cfg (window s s.cfg.ns) s.call.n0 s.call.real = some d ∧
          -((s.cfg.os / 2 : Nat) : Int) ≤ d ∧ d ≤ ((s.cfg.os / 2 : Nat) : Int) ∧
          ∀ d' : Int, -((s.cfg.os / 2 : Nat) : Int) ≤ d' → d' ≤ ((s.cfg.os / 2 : Nat) : Int) →
            m d' ≤ m d ∧ (d' < d → m d' < m d)) ∧
      (4 ≤ s.cfg.nPre → s.avail < s.call.n0 + s.cfg.os / 2 + (s.cfg.nPre - 2) * s.cfg.ns →
        fineTiming machineArith s.cfg (window s s.cfg.ns) s.call.n0 s.call.real = none)) ∧
    -- FIND_DOWNCHIRP: the first window whose conjugated path has the larger peak power
    (∀ (pw : Bool → Nat → List Rat) (top : Bool → Nat → Rat) (a : Nat → Int) (first : Option Nat),
      (∀ i, a i = s.call.z0 + ((s.cfg.nPre - 2 + i) * s.cfg.ns : Nat)) →
      (∀ cj i, pw cj i = (spectrum machineArith s.cfg cj s.call.real
        ((List.range s.cfg.ns).map fun m => sampleAt s ((a i).toNat + m))).map machineArith.abs2) →
      (∀ cj i, top cj i = realAt machineArith (pw cj i) (peak machineArith (pw cj i))) →
      first = (List.range 4).find? (fun i => decide (top false i < top true i)) → (a (first.getD 3)).toNat + s.cfg.ns ≤ s.avail →
      exec .findDownchirp s = .next { s with ret := .optNat (first.map fun i => s.cfg.nPre - 2 + i) } ∧
      findDownchirp machineArith s.cfg (window s s.cfg.ns) s.call.z0 s.call.real
        = some (first.map fun i => s.cfg.nPre - 2 + i))
end

