-- ==== Sys2Proof/Laws/State.lean ====
section
/-! SUPPORT. One lemma for each field of each update, true by definition: no later proof unfolds a record update. -/

namespace Sys2Proof.Machine

/-! ### `raise` -/

@[simp] theorem raise_csr (k : ErrKind) (s : State) : (raise k s).csr = s.csr := rfl
@[simp] theorem raise_cfg (k : ErrKind) (s : State) : (raise k s).cfg = s.cfg := rfl
@[simp] theorem raise_phase (k : ErrKind) (s : State) : (raise k s).phase = s.phase := rfl
@[simp] theorem raise_p (k : ErrKind) (s : State) : (raise k s).p = s.p := rfl
@[simp] theorem raise_sympos (k : ErrKind) (s : State) : (raise k s).sympos = s.sympos := rfl
@[simp] theorem raise_hdrStart (k : ErrKind) (s : State) : (raise k s).hdrStart = s.hdrStart := rfl
@[simp] theorem raise_avail (k : ErrKind) (s : State) : (raise k s).avail = s.avail := rfl
@[simp] theorem raise_eos (k : ErrKind) (s : State) : (raise k s).eos = s.eos := rfl
@[simp] theorem raise_store (k : ErrKind) (s : State) : (raise k s).store = s.store := rfl
@[simp] theorem raise_sync (k : ErrKind) (s : State) : (raise k s).sync = s.sync := rfl
@[simp] theorem raise_cand (k : ErrKind) (s : State) : (raise k s).cand = s.cand := rfl
@[simp] theorem raise_symbuf (k : ErrKind) (s : State) : (raise k s).symbuf = s.symbuf := rfl
@[simp] theorem raise_blklen (k : ErrKind) (s : State) : (raise k s).blklen = s.blklen := rfl
@[simp] theorem raise_diag (k : ErrKind) (s : State) : (raise k s).diag = s.diag := rfl
@[simp] theorem raise_hdrf (k : ErrKind) (s : State) : (raise k s).hdrf = s.hdrf := rfl
@[simp] theorem raise_nib (k : ErrKind) (s : State) : (raise k s).nib = s.nib := rfl
@[simp] theorem raise_need (k : ErrKind) (s : State) : (raise k s).need = s.need := rfl
@[simp] theorem raise_hamUnc (k : ErrKind) (s : State) : (raise k s).hamUnc = s.hamUnc := rfl
@[simp] theorem raise_bytes (k : ErrKind) (s : State) : (raise k s).bytes = s.bytes := rfl
@[simp] theorem raise_lfsr (k : ErrKind) (s : State) : (raise k s).lfsr = s.lfsr := rfl
@[simp] theorem raise_crcRx (k : ErrKind) (s : State) : (raise k s).crcRx = s.crcRx := rfl
@[simp] theorem raise_crcCalc (k : ErrKind) (s : State) : (raise k s).crcCalc = s.crcCalc := rfl
@[simp] theorem raise_crcOk (k : ErrKind) (s : State) : (raise k s).crcOk = s.crcOk := rfl
@[simp] theorem raise_crcChecked (k : ErrKind) (s : State) : (raise k s).crcChecked = s.crcChecked := rfl
@[simp] theorem raise_fifo (k : ErrKind) (s : State) : (raise k s).fifo = s.fifo := rfl
@[simp] theorem raise_err (k : ErrKind) (s : State) : (raise k s).err = s.err ||| (1#32 <<< k.code) := rfl
@[simp] theorem raise_lastErr (k : ErrKind) (s : State) : (raise k s).lastErr = BitVec.ofNat 4 k.code := rfl
@[simp] theorem raise_frameCount (k : ErrKind) (s : State) : (raise k s).frameCount = s.frameCount := rfl
@[simp] theorem raise_notfoundCount (k : ErrKind) (s : State) : (raise k s).notfoundCount = s.notfoundCount := rfl
@[simp] theorem raise_abortCount (k : ErrKind) (s : State) : (raise k s).abortCount = s.abortCount := rfl
@[simp] theorem raise_inbox (k : ErrKind) (s : State) : (raise k s).inbox = s.inbox := rfl
@[simp] theorem raise_rdata (k : ErrKind) (s : State) : (raise k s).rdata = s.rdata := rfl
@[simp] theorem raise_frameOut (k : ErrKind) (s : State) : (raise k s).frameOut = s.frameOut := rfl
@[simp] theorem raise_call (k : ErrKind) (s : State) : (raise k s).call = s.call := rfl
@[simp] theorem raise_ret (k : ErrKind) (s : State) : (raise k s).ret = s.ret := rfl
@[simp] theorem raise_inst (k : ErrKind) (s : State) : (raise k s).inst = s.inst := rfl

/-! ### `unlock` -/

@[simp] theorem unlock_csr (s : State) : (unlock s).csr = s.csr := rfl
@[simp] theorem unlock_cfg (s : State) : (unlock s).cfg = s.cfg := rfl
@[simp] theorem unlock_phase (s : State) : (unlock s).phase = s.phase := rfl
@[simp] theorem unlock_p (s : State) : (unlock s).p = s.p := rfl
@[simp] theorem unlock_sympos (s : State) : (unlock s).sympos = s.sympos := rfl
@[simp] theorem unlock_hdrStart (s : State) : (unlock s).hdrStart = s.hdrStart := rfl
@[simp] theorem unlock_avail (s : State) : (unlock s).avail = s.avail := rfl
@[simp] theorem unlock_eos (s : State) : (unlock s).eos = s.eos := rfl
@[simp] theorem unlock_store (s : State) : (unlock s).store = s.store := rfl
@[simp] theorem unlock_sync (s : State) : (unlock s).sync = { s.sync with locked := false } := rfl
@[simp] theorem unlock_cand (s : State) : (unlock s).cand = s.cand := rfl
@[simp] theorem unlock_symbuf (s : State) : (unlock s).symbuf = s.symbuf := rfl
@[simp] theorem unlock_blklen (s : State) : (unlock s).blklen = s.blklen := rfl
@[simp] theorem unlock_diag (s : State) : (unlock s).diag = s.diag := rfl
@[simp] theorem unlock_hdrf (s : State) : (unlock s).hdrf = s.hdrf := rfl
@[simp] theorem unlock_nib (s : State) : (unlock s).nib = s.nib := rfl
@[simp] theorem unlock_need (s : State) : (unlock s).need = s.need := rfl
@[simp] theorem unlock_hamUnc (s : State) : (unlock s).hamUnc = s.hamUnc := rfl
@[simp] theorem unlock_bytes (s : State) : (unlock s).bytes = s.bytes := rfl
@[simp] theorem unlock_lfsr (s : State) : (unlock s).lfsr = s.lfsr := rfl
@[simp] theorem unlock_crcRx (s : State) : (unlock s).crcRx = s.crcRx := rfl
@[simp] theorem unlock_crcCalc (s : State) : (unlock s).crcCalc = s.crcCalc := rfl
@[simp] theorem unlock_crcOk (s : State) : (unlock s).crcOk = s.crcOk := rfl
@[simp] theorem unlock_crcChecked (s : State) : (unlock s).crcChecked = s.crcChecked := rfl
@[simp] theorem unlock_fifo (s : State) : (unlock s).fifo = s.fifo := rfl
@[simp] theorem unlock_err (s : State) : (unlock s).err = s.err := rfl
@[simp] theorem unlock_lastErr (s : State) : (unlock s).lastErr = s.lastErr := rfl
@[simp] theorem unlock_frameCount (s : State) : (unlock s).frameCount = s.frameCount := rfl
@[simp] theorem unlock_notfoundCount (s : State) : (unlock s).notfoundCount = s.notfoundCount := rfl
@[simp] theorem unlock_abortCount (s : State) : (unlock s).abortCount = s.abortCount := rfl
@[simp] theorem unlock_inbox (s : State) : (unlock s).inbox = s.inbox := rfl
@[simp] theorem unlock_rdata (s : State) : (unlock s).rdata = s.rdata := rfl
@[simp] theorem unlock_frameOut (s : State) : (unlock s).frameOut = s.frameOut := rfl
@[simp] theorem unlock_call (s : State) : (unlock s).call = s.call := rfl
@[simp] theorem unlock_ret (s : State) : (unlock s).ret = s.ret := rfl
@[simp] theorem unlock_inst (s : State) : (unlock s).inst = s.inst := rfl

/-! ### `toNextSearch` -/

@[simp] theorem toNextSearch_csr (s : State) : (toNextSearch s).csr = s.csr := rfl
@[simp] theorem toNextSearch_cfg (s : State) : (toNextSearch s).cfg = s.cfg := rfl
@[simp] theorem toNextSearch_phase (s : State) : (toNextSearch s).phase = nextPhase s := rfl
@[simp] theorem toNextSearch_p (s : State) : (toNextSearch s).p = s.p := rfl
@[simp] theorem toNextSearch_sympos (s : State) : (toNextSearch s).sympos = s.sympos := rfl
@[simp] theorem toNextSearch_hdrStart (s : State) : (toNextSearch s).hdrStart = s.hdrStart := rfl
@[simp] theorem toNextSearch_avail (s : State) : (toNextSearch s).avail = s.avail := rfl
@[simp] theorem toNextSearch_eos (s : State) : (toNextSearch s).eos = s.eos := rfl
@[simp] theorem toNextSearch_store (s : State) : (toNextSearch s).store = s.store := rfl
@[simp] theorem toNextSearch_sync (s : State) : (toNextSearch s).sync = s.sync := rfl
@[simp] theorem toNextSearch_cand (s : State) : (toNextSearch s).cand = s.cand := rfl
@[simp] theorem toNextSearch_symbuf (s : State) : (toNextSearch s).symbuf = s.symbuf := rfl
@[simp] theorem toNextSearch_blklen (s : State) : (toNextSearch s).blklen = s.blklen := rfl
@[simp] theorem toNextSearch_diag (s : State) : (toNextSearch s).diag = s.diag := rfl
@[simp] theorem toNextSearch_hdrf (s : State) : (toNextSearch s).hdrf = s.hdrf := rfl
@[simp] theorem toNextSearch_nib (s : State) : (toNextSearch s).nib = s.nib := rfl
@[simp] theorem toNextSearch_need (s : State) : (toNextSearch s).need = s.need := rfl
@[simp] theorem toNextSearch_hamUnc (s : State) : (toNextSearch s).hamUnc = s.hamUnc := rfl
@[simp] theorem toNextSearch_bytes (s : State) : (toNextSearch s).bytes = s.bytes := rfl
@[simp] theorem toNextSearch_lfsr (s : State) : (toNextSearch s).lfsr = s.lfsr := rfl
@[simp] theorem toNextSearch_crcRx (s : State) : (toNextSearch s).crcRx = s.crcRx := rfl
@[simp] theorem toNextSearch_crcCalc (s : State) : (toNextSearch s).crcCalc = s.crcCalc := rfl
@[simp] theorem toNextSearch_crcOk (s : State) : (toNextSearch s).crcOk = s.crcOk := rfl
@[simp] theorem toNextSearch_crcChecked (s : State) : (toNextSearch s).crcChecked = s.crcChecked := rfl
@[simp] theorem toNextSearch_fifo (s : State) : (toNextSearch s).fifo = s.fifo := rfl
@[simp] theorem toNextSearch_err (s : State) : (toNextSearch s).err = s.err := rfl
@[simp] theorem toNextSearch_lastErr (s : State) : (toNextSearch s).lastErr = s.lastErr := rfl
@[simp] theorem toNextSearch_frameCount (s : State) : (toNextSearch s).frameCount = s.frameCount := rfl
@[simp] theorem toNextSearch_notfoundCount (s : State) : (toNextSearch s).notfoundCount = s.notfoundCount := rfl
@[simp] theorem toNextSearch_abortCount (s : State) : (toNextSearch s).abortCount = s.abortCount := rfl
@[simp] theorem toNextSearch_inbox (s : State) : (toNextSearch s).inbox = s.inbox := rfl
@[simp] theorem toNextSearch_rdata (s : State) : (toNextSearch s).rdata = s.rdata := rfl
@[simp] theorem toNextSearch_frameOut (s : State) : (toNextSearch s).frameOut = s.frameOut := rfl
@[simp] theorem toNextSearch_call (s : State) : (toNextSearch s).call = s.call := rfl
@[simp] theorem toNextSearch_ret (s : State) : (toNextSearch s).ret = s.ret := rfl
@[simp] theorem toNextSearch_inst (s : State) : (toNextSearch s).inst = s.inst := rfl

/-! ### `appendSample` -/

@[simp] theorem appendSample_csr (z : Cx) (s : State) : (appendSample z s).csr = s.csr := rfl
@[simp] theorem appendSample_cfg (z : Cx) (s : State) : (appendSample z s).cfg = s.cfg := rfl
@[simp] theorem appendSample_phase (z : Cx) (s : State) : (appendSample z s).phase = s.phase := rfl
@[simp] theorem appendSample_p (z : Cx) (s : State) : (appendSample z s).p = s.p := rfl
@[simp] theorem appendSample_sympos (z : Cx) (s : State) : (appendSample z s).sympos = s.sympos := rfl
@[simp] theorem appendSample_hdrStart (z : Cx) (s : State) : (appendSample z s).hdrStart = s.hdrStart := rfl
@[simp] theorem appendSample_avail (z : Cx) (s : State) : (appendSample z s).avail = s.avail + 1 := rfl
@[simp] theorem appendSample_eos (z : Cx) (s : State) : (appendSample z s).eos = s.eos := rfl
@[simp] theorem appendSample_store (z : Cx) (s : State) : (appendSample z s).store = s.store ++ [z] := rfl
@[simp] theorem appendSample_sync (z : Cx) (s : State) : (appendSample z s).sync = s.sync := rfl
@[simp] theorem appendSample_cand (z : Cx) (s : State) : (appendSample z s).cand = s.cand := rfl
@[simp] theorem appendSample_symbuf (z : Cx) (s : State) : (appendSample z s).symbuf = s.symbuf := rfl
@[simp] theorem appendSample_blklen (z : Cx) (s : State) : (appendSample z s).blklen = s.blklen := rfl
@[simp] theorem appendSample_diag (z : Cx) (s : State) : (appendSample z s).diag = s.diag := rfl
@[simp] theorem appendSample_hdrf (z : Cx) (s : State) : (appendSample z s).hdrf = s.hdrf := rfl
@[simp] theorem appendSample_nib (z : Cx) (s : State) : (appendSample z s).nib = s.nib := rfl
@[simp] theorem appendSample_need (z : Cx) (s : State) : (appendSample z s).need = s.need := rfl
@[simp] theorem appendSample_hamUnc (z : Cx) (s : State) : (appendSample z s).hamUnc = s.hamUnc := rfl
@[simp] theorem appendSample_bytes (z : Cx) (s : State) : (appendSample z s).bytes = s.bytes := rfl
@[simp] theorem appendSample_lfsr (z : Cx) (s : State) : (appendSample z s).lfsr = s.lfsr := rfl
@[simp] theorem appendSample_crcRx (z : Cx) (s : State) : (appendSample z s).crcRx = s.crcRx := rfl
@[simp] theorem appendSample_crcCalc (z : Cx) (s : State) : (appendSample z s).crcCalc = s.crcCalc := rfl
@[simp] theorem appendSample_crcOk (z : Cx) (s : State) : (appendSample z s).crcOk = s.crcOk := rfl
@[simp] theorem appendSample_crcChecked (z : Cx) (s : State) : (appendSample z s).crcChecked = s.crcChecked := rfl
@[simp] theorem appendSample_fifo (z : Cx) (s : State) : (appendSample z s).fifo = s.fifo := rfl
@[simp] theorem appendSample_err (z : Cx) (s : State) : (appendSample z s).err = s.err := rfl
@[simp] theorem appendSample_lastErr (z : Cx) (s : State) : (appendSample z s).lastErr = s.lastErr := rfl
@[simp] theorem appendSample_frameCount (z : Cx) (s : State) : (appendSample z s).frameCount = s.frameCount := rfl
@[simp] theorem appendSample_notfoundCount (z : Cx) (s : State) : (appendSample z s).notfoundCount = s.notfoundCount := rfl
@[simp] theorem appendSample_abortCount (z : Cx) (s : State) : (appendSample z s).abortCount = s.abortCount := rfl
@[simp] theorem appendSample_inbox (z : Cx) (s : State) : (appendSample z s).inbox = s.inbox := rfl
@[simp] theorem appendSample_rdata (z : Cx) (s : State) : (appendSample z s).rdata = s.rdata := rfl
@[simp] theorem appendSample_frameOut (z : Cx) (s : State) : (appendSample z s).frameOut = s.frameOut := rfl
@[simp] theorem appendSample_call (z : Cx) (s : State) : (appendSample z s).call = s.call := rfl
@[simp] theorem appendSample_ret (z : Cx) (s : State) : (appendSample z s).ret = s.ret := rfl
@[simp] theorem appendSample_inst (z : Cx) (s : State) : (appendSample z s).inst = s.inst := rfl

/-! ### `returning` -/

@[simp] theorem returning_csr (r : Ret) (s : State) : (returning r s).csr = s.csr := rfl
@[simp] theorem returning_cfg (r : Ret) (s : State) : (returning r s).cfg = s.cfg := rfl
@[simp] theorem returning_phase (r : Ret) (s : State) : (returning r s).phase = s.phase := rfl
@[simp] theorem returning_p (r : Ret) (s : State) : (returning r s).p = s.p := rfl
@[simp] theorem returning_sympos (r : Ret) (s : State) : (returning r s).sympos = s.sympos := rfl
@[simp] theorem returning_hdrStart (r : Ret) (s : State) : (returning r s).hdrStart = s.hdrStart := rfl
@[simp] theorem returning_avail (r : Ret) (s : State) : (returning r s).avail = s.avail := rfl
@[simp] theorem returning_eos (r : Ret) (s : State) : (returning r s).eos = s.eos := rfl
@[simp] theorem returning_store (r : Ret) (s : State) : (returning r s).store = s.store := rfl
@[simp] theorem returning_sync (r : Ret) (s : State) : (returning r s).sync = s.sync := rfl
@[simp] theorem returning_cand (r : Ret) (s : State) : (returning r s).cand = s.cand := rfl
@[simp] theorem returning_symbuf (r : Ret) (s : State) : (returning r s).symbuf = s.symbuf := rfl
@[simp] theorem returning_blklen (r : Ret) (s : State) : (returning r s).blklen = s.blklen := rfl
@[simp] theorem returning_diag (r : Ret) (s : State) : (returning r s).diag = s.diag := rfl
@[simp] theorem returning_hdrf (r : Ret) (s : State) : (returning r s).hdrf = s.hdrf := rfl
@[simp] theorem returning_nib (r : Ret) (s : State) : (returning r s).nib = s.nib := rfl
@[simp] theorem returning_need (r : Ret) (s : State) : (returning r s).need = s.need := rfl
@[simp] theorem returning_hamUnc (r : Ret) (s : State) : (returning r s).hamUnc = s.hamUnc := rfl
@[simp] theorem returning_bytes (r : Ret) (s : State) : (returning r s).bytes = s.bytes := rfl
@[simp] theorem returning_lfsr (r : Ret) (s : State) : (returning r s).lfsr = s.lfsr := rfl
@[simp] theorem returning_crcRx (r : Ret) (s : State) : (returning r s).crcRx = s.crcRx := rfl
@[simp] theorem returning_crcCalc (r : Ret) (s : State) : (returning r s).crcCalc = s.crcCalc := rfl
@[simp] theorem returning_crcOk (r : Ret) (s : State) : (returning r s).crcOk = s.crcOk := rfl
@[simp] theorem returning_crcChecked (r : Ret) (s : State) : (returning r s).crcChecked = s.crcChecked := rfl
@[simp] theorem returning_fifo (r : Ret) (s : State) : (returning r s).fifo = s.fifo := rfl
@[simp] theorem returning_err (r : Ret) (s : State) : (returning r s).err = s.err := rfl
@[simp] theorem returning_lastErr (r : Ret) (s : State) : (returning r s).lastErr = s.lastErr := rfl
@[simp] theorem returning_frameCount (r : Ret) (s : State) : (returning r s).frameCount = s.frameCount := rfl
@[simp] theorem returning_notfoundCount (r : Ret) (s : State) : (returning r s).notfoundCount = s.notfoundCount := rfl
@[simp] theorem returning_abortCount (r : Ret) (s : State) : (returning r s).abortCount = s.abortCount := rfl
@[simp] theorem returning_inbox (r : Ret) (s : State) : (returning r s).inbox = s.inbox := rfl
@[simp] theorem returning_rdata (r : Ret) (s : State) : (returning r s).rdata = s.rdata := rfl
@[simp] theorem returning_frameOut (r : Ret) (s : State) : (returning r s).frameOut = s.frameOut := rfl
@[simp] theorem returning_call (r : Ret) (s : State) : (returning r s).call = s.call := rfl
@[simp] theorem returning_ret (r : Ret) (s : State) : (returning r s).ret = r := rfl
@[simp] theorem returning_inst (r : Ret) (s : State) : (returning r s).inst = s.inst := rfl

/-! ### `syncFailed` -/

@[simp] theorem syncFailed_csr (s : State) : (syncFailed s).csr = s.csr := rfl
@[simp] theorem syncFailed_cfg (s : State) : (syncFailed s).cfg = s.cfg := rfl
@[simp] theorem syncFailed_phase (s : State) : (syncFailed s).phase = nextPhase { s with notfoundCount := s.notfoundCount + 1 } := rfl
@[simp] theorem syncFailed_p (s : State) : (syncFailed s).p = s.p + s.cfg.ns := rfl
@[simp] theorem syncFailed_sympos (s : State) : (syncFailed s).sympos = s.sympos := rfl
@[simp] theorem syncFailed_hdrStart (s : State) : (syncFailed s).hdrStart = s.hdrStart := rfl
@[simp] theorem syncFailed_avail (s : State) : (syncFailed s).avail = s.avail := rfl
@[simp] theorem syncFailed_eos (s : State) : (syncFailed s).eos = s.eos := rfl
@[simp] theorem syncFailed_store (s : State) : (syncFailed s).store = s.store := rfl
@[simp] theorem syncFailed_sync (s : State) : (syncFailed s).sync = { s.sync with locked := false } := rfl
@[simp] theorem syncFailed_cand (s : State) : (syncFailed s).cand = s.cand := rfl
@[simp] theorem syncFailed_symbuf (s : State) : (syncFailed s).symbuf = s.symbuf := rfl
@[simp] theorem syncFailed_blklen (s : State) : (syncFailed s).blklen = s.blklen := rfl
@[simp] theorem syncFailed_diag (s : State) : (syncFailed s).diag = s.diag := rfl
@[simp] theorem syncFailed_hdrf (s : State) : (syncFailed s).hdrf = s.hdrf := rfl
@[simp] theorem syncFailed_nib (s : State) : (syncFailed s).nib = s.nib := rfl
@[simp] theorem syncFailed_need (s : State) : (syncFailed s).need = s.need := rfl
@[simp] theorem syncFailed_hamUnc (s : State) : (syncFailed s).hamUnc = s.hamUnc := rfl
@[simp] theorem syncFailed_bytes (s : State) : (syncFailed s).bytes = s.bytes := rfl
@[simp] theorem syncFailed_lfsr (s : State) : (syncFailed s).lfsr = s.lfsr := rfl
@[simp] theorem syncFailed_crcRx (s : State) : (syncFailed s).crcRx = s.crcRx := rfl
@[simp] theorem syncFailed_crcCalc (s : State) : (syncFailed s).crcCalc = s.crcCalc := rfl
@[simp] theorem syncFailed_crcOk (s : State) : (syncFailed s).crcOk = s.crcOk := rfl
@[simp] theorem syncFailed_crcChecked (s : State) : (syncFailed s).crcChecked = s.crcChecked := rfl
@[simp] theorem syncFailed_fifo (s : State) : (syncFailed s).fifo = s.fifo := rfl
@[simp] theorem syncFailed_err (s : State) : (syncFailed s).err = s.err := rfl
@[simp] theorem syncFailed_lastErr (s : State) : (syncFailed s).lastErr = s.lastErr := rfl
@[simp] theorem syncFailed_frameCount (s : State) : (syncFailed s).frameCount = s.frameCount := rfl
@[simp] theorem syncFailed_notfoundCount (s : State) : (syncFailed s).notfoundCount = s.notfoundCount + 1 := rfl
@[simp] theorem syncFailed_abortCount (s : State) : (syncFailed s).abortCount = s.abortCount := rfl
@[simp] theorem syncFailed_inbox (s : State) : (syncFailed s).inbox = s.inbox := rfl
@[simp] theorem syncFailed_rdata (s : State) : (syncFailed s).rdata = s.rdata := rfl
@[simp] theorem syncFailed_frameOut (s : State) : (syncFailed s).frameOut = s.frameOut := rfl
@[simp] theorem syncFailed_call (s : State) : (syncFailed s).call = s.call := rfl
@[simp] theorem syncFailed_ret (s : State) : (syncFailed s).ret = s.ret := rfl
@[simp] theorem syncFailed_inst (s : State) : (syncFailed s).inst = s.inst := rfl

/-! ### `headerAborted` -/

@[simp] theorem headerAborted_csr (s : State) : (headerAborted s).csr = s.csr := rfl
@[simp] theorem headerAborted_cfg (s : State) : (headerAborted s).cfg = s.cfg := rfl
@[simp] theorem headerAborted_phase (s : State) : (headerAborted s).phase = nextPhase { s with abortCount := s.abortCount + 1 } := rfl
@[simp] theorem headerAborted_p (s : State) : (headerAborted s).p = s.sympos := rfl
@[simp] theorem headerAborted_sympos (s : State) : (headerAborted s).sympos = s.sympos := rfl
@[simp] theorem headerAborted_hdrStart (s : State) : (headerAborted s).hdrStart = s.hdrStart := rfl
@[simp] theorem headerAborted_avail (s : State) : (headerAborted s).avail = s.avail := rfl
@[simp] theorem headerAborted_eos (s : State) : (headerAborted s).eos = s.eos := rfl
@[simp] theorem headerAborted_store (s : State) : (headerAborted s).store = s.store := rfl
@[simp] theorem headerAborted_sync (s : State) : (headerAborted s).sync = { s.sync with locked := false } := rfl
@[simp] theorem headerAborted_cand (s : State) : (headerAborted s).cand = s.cand := rfl
@[simp] theorem headerAborted_symbuf (s : State) : (headerAborted s).symbuf = [] := rfl
@[simp] theorem headerAborted_blklen (s : State) : (headerAborted s).blklen = s.blklen := rfl
@[simp] theorem headerAborted_diag (s : State) : (headerAborted s).diag = s.diag := rfl
@[simp] theorem headerAborted_hdrf (s : State) : (headerAborted s).hdrf = s.hdrf := rfl
@[simp] theorem headerAborted_nib (s : State) : (headerAborted s).nib = s.nib := rfl
@[simp] theorem headerAborted_need (s : State) : (headerAborted s).need = s.need := rfl
@[simp] theorem headerAborted_hamUnc (s : State) : (headerAborted s).hamUnc = s.hamUnc := rfl
@[simp] theorem headerAborted_bytes (s : State) : (headerAborted s).bytes = s.bytes := rfl
@[simp] theorem headerAborted_lfsr (s : State) : (headerAborted s).lfsr = s.lfsr := rfl
@[simp] theorem headerAborted_crcRx (s : State) : (headerAborted s).crcRx = s.crcRx := rfl
@[simp] theorem headerAborted_crcCalc (s : State) : (headerAborted s).crcCalc = s.crcCalc := rfl
@[simp] theorem headerAborted_crcOk (s : State) : (headerAborted s).crcOk = s.crcOk := rfl
@[simp] theorem headerAborted_crcChecked (s : State) : (headerAborted s).crcChecked = s.crcChecked := rfl
@[simp] theorem headerAborted_fifo (s : State) : (headerAborted s).fifo = s.fifo := rfl
@[simp] theorem headerAborted_err (s : State) : (headerAborted s).err = s.err := rfl
@[simp] theorem headerAborted_lastErr (s : State) : (headerAborted s).lastErr = s.lastErr := rfl
@[simp] theorem headerAborted_frameCount (s : State) : (headerAborted s).frameCount = s.frameCount := rfl
@[simp] theorem headerAborted_notfoundCount (s : State) : (headerAborted s).notfoundCount = s.notfoundCount := rfl
@[simp] theorem headerAborted_abortCount (s : State) : (headerAborted s).abortCount = s.abortCount + 1 := rfl
@[simp] theorem headerAborted_inbox (s : State) : (headerAborted s).inbox = s.inbox := rfl
@[simp] theorem headerAborted_rdata (s : State) : (headerAborted s).rdata = s.rdata := rfl
@[simp] theorem headerAborted_frameOut (s : State) : (headerAborted s).frameOut = s.frameOut := rfl
@[simp] theorem headerAborted_call (s : State) : (headerAborted s).call = s.call := rfl
@[simp] theorem headerAborted_ret (s : State) : (headerAborted s).ret = s.ret := rfl
@[simp] theorem headerAborted_inst (s : State) : (headerAborted s).inst = s.inst := rfl

/-! ### `setupPayload` -/

@[simp] theorem setupPayload_csr (s : State) : (setupPayload s).csr = s.csr := rfl
@[simp] theorem setupPayload_cfg (s : State) : (setupPayload s).cfg = s.cfg := rfl
@[simp] theorem setupPayload_phase (s : State) : (setupPayload s).phase = if needOf s.hdrf.payloadLength.toNat s.hdrf.hasCrc = 0 then .dewhiten else .payDemod := rfl
@[simp] theorem setupPayload_p (s : State) : (setupPayload s).p = s.p := rfl
@[simp] theorem setupPayload_sympos (s : State) : (setupPayload s).sympos = s.sympos := rfl
@[simp] theorem setupPayload_hdrStart (s : State) : (setupPayload s).hdrStart = s.hdrStart := rfl
@[simp] theorem setupPayload_avail (s : State) : (setupPayload s).avail = s.avail := rfl
@[simp] theorem setupPayload_eos (s : State) : (setupPayload s).eos = s.eos := rfl
@[simp] theorem setupPayload_store (s : State) : (setupPayload s).store = s.store := rfl
@[simp] theorem setupPayload_sync (s : State) : (setupPayload s).sync = s.sync := rfl
@[simp] theorem setupPayload_cand (s : State) : (setupPayload s).cand = s.cand := rfl
@[simp] theorem setupPayload_symbuf (s : State) : (setupPayload s).symbuf = [] := rfl
@[simp] theorem setupPayload_blklen (s : State) : (setupPayload s).blklen = s.hdrf.codingRate.toNat + 4 := rfl
@[simp] theorem setupPayload_diag (s : State) : (setupPayload s).diag = s.diag := rfl
@[simp] theorem setupPayload_hdrf (s : State) : (setupPayload s).hdrf = s.hdrf := rfl
@[simp] theorem setupPayload_nib (s : State) : (setupPayload s).nib = [] := rfl
@[simp] theorem setupPayload_need (s : State) : (setupPayload s).need = needOf s.hdrf.payloadLength.toNat s.hdrf.hasCrc := rfl
@[simp] theorem setupPayload_hamUnc (s : State) : (setupPayload s).hamUnc = 0 := rfl
@[simp] theorem setupPayload_bytes (s : State) : (setupPayload s).bytes = s.bytes := rfl
@[simp] theorem setupPayload_lfsr (s : State) : (setupPayload s).lfsr = s.lfsr := rfl
@[simp] theorem setupPayload_crcRx (s : State) : (setupPayload s).crcRx = s.crcRx := rfl
@[simp] theorem setupPayload_crcCalc (s : State) : (setupPayload s).crcCalc = s.crcCalc := rfl
@[simp] theorem setupPayload_crcOk (s : State) : (setupPayload s).crcOk = s.crcOk := rfl
@[simp] theorem setupPayload_crcChecked (s : State) : (setupPayload s).crcChecked = s.crcChecked := rfl
@[simp] theorem setupPayload_fifo (s : State) : (setupPayload s).fifo = s.fifo := rfl
@[simp] theorem setupPayload_err (s : State) : (setupPayload s).err = s.err := rfl
@[simp] theorem setupPayload_lastErr (s : State) : (setupPayload s).lastErr = s.lastErr := rfl
@[simp] theorem setupPayload_frameCount (s : State) : (setupPayload s).frameCount = s.frameCount := rfl
@[simp] theorem setupPayload_notfoundCount (s : State) : (setupPayload s).notfoundCount = s.notfoundCount := rfl
@[simp] theorem setupPayload_abortCount (s : State) : (setupPayload s).abortCount = s.abortCount := rfl
@[simp] theorem setupPayload_inbox (s : State) : (setupPayload s).inbox = s.inbox := rfl
@[simp] theorem setupPayload_rdata (s : State) : (setupPayload s).rdata = s.rdata := rfl
@[simp] theorem setupPayload_frameOut (s : State) : (setupPayload s).frameOut = s.frameOut := rfl
@[simp] theorem setupPayload_call (s : State) : (setupPayload s).call = s.call := rfl
@[simp] theorem setupPayload_ret (s : State) : (setupPayload s).ret = s.ret := rfl
@[simp] theorem setupPayload_inst (s : State) : (setupPayload s).inst = s.inst := rfl

/-! ### `lockRegs` -/

@[simp] theorem lockRegs_csr (c : Int) (f : Rat) (n : Nat) (x : Ext Rat) (a : Nat) (s : State) : (lockRegs c f n x a s).csr = s.csr := rfl
@[simp] theorem lockRegs_cfg (c : Int) (f : Rat) (n : Nat) (x : Ext Rat) (a : Nat) (s : State) : (lockRegs c f n x a s).cfg = s.cfg := rfl
@[simp] theorem lockRegs_phase (c : Int) (f : Rat) (n : Nat) (x : Ext Rat) (a : Nat) (s : State) : (lockRegs c f n x a s).phase = s.phase := rfl
@[simp] theorem lockRegs_p (c : Int) (f : Rat) (n : Nat) (x : Ext Rat) (a : Nat) (s : State) : (lockRegs c f n x a s).p = s.p := rfl
@[simp] theorem lockRegs_sympos (c : Int) (f : Rat) (n : Nat) (x : Ext Rat) (a : Nat) (s : State) : (lockRegs c f n x a s).sympos = a := rfl
@[simp] theorem lockRegs_hdrStart (c : Int) (f : Rat) (n : Nat) (x : Ext Rat) (a : Nat) (s : State) : (lockRegs c f n x a s).hdrStart = a := rfl
@[simp] theorem lockRegs_avail (c : Int) (f : Rat) (n : Nat) (x : Ext Rat) (a : Nat) (s : State) : (lockRegs c f n x a s).avail = s.avail := rfl
@[simp] theorem lockRegs_eos (c : Int) (f : Rat) (n : Nat) (x : Ext Rat) (a : Nat) (s : State) : (lockRegs c f n x a s).eos = s.eos := rfl
@[simp] theorem lockRegs_store (c : Int) (f : Rat) (n : Nat) (x : Ext Rat) (a : Nat) (s : State) : (lockRegs c f n x a s).store = s.store := rfl
@[simp] theorem lockRegs_sync (c : Int) (f : Rat) (n : Nat) (x : Ext Rat) (a : Nat) (s : State) : (lockRegs c f n x a s).sync = ⟨c, f, n, x, true⟩ := rfl
@[simp] theorem lockRegs_cand (c : Int) (f : Rat) (n : Nat) (x : Ext Rat) (a : Nat) (s : State) : (lockRegs c f n x a s).cand = s.cand := rfl
@[simp] theorem lockRegs_symbuf (c : Int) (f : Rat) (n : Nat) (x : Ext Rat) (a : Nat) (s : State) : (lockRegs c f n x a s).symbuf = [] := rfl
@[simp] theorem lockRegs_blklen (c : Int) (f : Rat) (n : Nat) (x : Ext Rat) (a : Nat) (s : State) : (lockRegs c f n x a s).blklen = s.blklen := rfl
@[simp] theorem lockRegs_diag (c : Int) (f : Rat) (n : Nat) (x : Ext Rat) (a : Nat) (s : State) : (lockRegs c f n x a s).diag = [] := rfl
@[simp] theorem lockRegs_hdrf (c : Int) (f : Rat) (n : Nat) (x : Ext Rat) (a : Nat) (s : State) : (lockRegs c f n x a s).hdrf = s.hdrf := rfl
@[simp] theorem lockRegs_nib (c : Int) (f : Rat) (n : Nat) (x : Ext Rat) (a : Nat) (s : State) : (lockRegs c f n x a s).nib = [] := rfl
@[simp] theorem lockRegs_need (c : Int) (f : Rat) (n : Nat) (x : Ext Rat) (a : Nat) (s : State) : (lockRegs c f n x a s).need = s.need := rfl
@[simp] theorem lockRegs_hamUnc (c : Int) (f : Rat) (n : Nat) (x : Ext Rat) (a : Nat) (s : State) : (lockRegs c f n x a s).hamUnc = 0 := rfl
@[simp] theorem lockRegs_bytes (c : Int) (f : Rat) (n : Nat) (x : Ext Rat) (a : Nat) (s : State) : (lockRegs c f n x a s).bytes = [] := rfl
@[simp] theorem lockRegs_lfsr (c : Int) (f : Rat) (n : Nat) (x : Ext Rat) (a : Nat) (s : State) : (lockRegs c f n x a s).lfsr = s.lfsr := rfl
@[simp] theorem lockRegs_crcRx (c : Int) (f : Rat) (n : Nat) (x : Ext Rat) (a : Nat) (s : State) : (lockRegs c f n x a s).crcRx = s.crcRx := rfl
@[simp] theorem lockRegs_crcCalc (c : Int) (f : Rat) (n : Nat) (x : Ext Rat) (a : Nat) (s : State) : (lockRegs c f n x a s).crcCalc = s.crcCalc := rfl
@[simp] theorem lockRegs_crcOk (c : Int) (f : Rat) (n : Nat) (x : Ext Rat) (a : Nat) (s : State) : (lockRegs c f n x a s).crcOk = s.crcOk := rfl
@[simp] theorem lockRegs_crcChecked (c : Int) (f : Rat) (n : Nat) (x : Ext Rat) (a : Nat) (s : State) : (lockRegs c f n x a s).crcChecked = s.crcChecked := rfl
@[simp] theorem lockRegs_fifo (c : Int) (f : Rat) (n : Nat) (x : Ext Rat) (a : Nat) (s : State) : (lockRegs c f n x a s).fifo = s.fifo := rfl
@[simp] theorem lockRegs_err (c : Int) (f : Rat) (n : Nat) (x : Ext Rat) (a : Nat) (s : State) : (lockRegs c f n x a s).err = s.err := rfl
@[simp] theorem lockRegs_lastErr (c : Int) (f : Rat) (n : Nat) (x : Ext Rat) (a : Nat) (s : State) : (lockRegs c f n x a s).lastErr = s.lastErr := rfl
@[simp] theorem lockRegs_frameCount (c : Int) (f : Rat) (n : Nat) (x : Ext Rat) (a : Nat) (s : State) : (lockRegs c f n x a s).frameCount = s.frameCount := rfl
@[simp] theorem lockRegs_notfoundCount (c : Int) (f : Rat) (n : Nat) (x : Ext Rat) (a : Nat) (s : State) : (lockRegs c f n x a s).notfoundCount = s.notfoundCount := rfl
@[simp] theorem lockRegs_abortCount (c : Int) (f : Rat) (n : Nat) (x : Ext Rat) (a : Nat) (s : State) : (lockRegs c f n x a s).abortCount = s.abortCount := rfl
@[simp] theorem lockRegs_inbox (c : Int) (f : Rat) (n : Nat) (x : Ext Rat) (a : Nat) (s : State) : (lockRegs c f n x a s).inbox = s.inbox := rfl
@[simp] theorem lockRegs_rdata (c : Int) (f : Rat) (n : Nat) (x : Ext Rat) (a : Nat) (s : State) : (lockRegs c f n x a s).rdata = s.rdata := rfl
@[simp] theorem lockRegs_frameOut (c : Int) (f : Rat) (n : Nat) (x : Ext Rat) (a : Nat) (s : State) : (lockRegs c f n x a s).frameOut = s.frameOut := rfl
@[simp] theorem lockRegs_call (c : Int) (f : Rat) (n : Nat) (x : Ext Rat) (a : Nat) (s : State) : (lockRegs c f n x a s).call = s.call := rfl
@[simp] theorem lockRegs_ret (c : Int) (f : Rat) (n : Nat) (x : Ext Rat) (a : Nat) (s : State) : (lockRegs c f n x a s).ret = s.ret := rfl
@[simp] theorem lockRegs_inst (c : Int) (f : Rat) (n : Nat) (x : Ext Rat) (a : Nat) (s : State) : (lockRegs c f n x a s).inst = s.inst := rfl

end Sys2Proof.Machine
end

