-- ==== Sys2Proof/Laws/Ops.lean ====
section
/-! SUPPORT. For each shared operation, one lemma that says once everything it can do; and what one move of an agent can do. -/

namespace Sys2Proof.Machine

/-! ### Sample store and windows -/

theorem window_eq_some {s : State} {len a : Nat} {l : List Cx} (h : window s len a = some l) :
    a + len ≤ s.avail ∧ l = (List.range len).map fun m => sampleAt s (a + m) := by
  unfold window at h
  split at h
  · exact ⟨‹_›, (Option.some.inj h).symm⟩
  · cases h

theorem window_eq_none {s : State} {len a : Nat} : window s len a = none ↔ s.avail < a + len := by
  unfold window
  split <;> simp <;> omega

theorem window_length {s : State} {len a : Nat} {l : List Cx} (h : window s len a = some l) : l.length = len := by
  rw [(window_eq_some h).2]; simp

theorem sampleAt_live {s : State} {i : Nat} (hr : retire s ≤ i) (hi : i < s.store.length) : sampleAt s i = s.store[i] := by
  unfold sampleAt
  rw [if_neg (Nat.not_lt.mpr hr)]
  simp [List.getD_eq_getElem?_getD, hi]

theorem sampleAt_retired {s : State} {i : Nat} (hr : i < retire s) : sampleAt s i = Config.retiredSample i := if_pos hr

theorem retire_locked {s : State} (h : s.sync.locked = true) : retire s = s.sympos := by simp [retire, h]

theorem retire_unlocked {s : State} (h : s.sync.locked = false) : retire s = s.p := by simp [retire, h]

/-! ### Lists of evaluations, peaks -/

theorem mapO_length {α β : Type} {f : α → Option β} {l : List α} {m : List β} (h : mapO f l = some m) : m.length = l.length := by
  induction l generalizing m with
  | nil => cases h; rfl
  | cons a as ih =>
    simp only [mapO] at h
    split at h
    · cases h
    · split at h
      · cases h
      · cases h; simp [ih ‹_›]

theorem mapO_some_mem {α β : Type} {f : α → Option β} {l : List α} {m : List β} (h : mapO f l = some m) {a : α} (ha : a ∈ l) :
    ∃ b, f a = some b := by
  induction l generalizing m with
  | nil => cases ha
  | cons x xs ih =>
    simp only [mapO] at h
    split at h
    · cases h
    · split at h
      · cases h
      · rcases List.mem_cons.mp ha with rfl | hx
        · exact ⟨_, ‹_›⟩
        · exact ih ‹_› hx

/-- An entry that the list holds is that entry. -/
theorem realAt_of_lt {R C : Type} (A : Arith R C) {l : List R} {i : Nat} (h : i < l.length) : realAt A l i = l[i] := by
  simp [realAt, List.getD_eq_getElem?_getD, h]

theorem cxAt_of_lt {R C : Type} (A : Arith R C) {l : List C} {i : Nat} (h : i < l.length) : cxAt A l i = l[i] := by
  simp [cxAt, List.getD_eq_getElem?_getD, h]

@[simp] theorem sumOf_nil {α : Type} (add : α → α → α) (zero : α) : sumOf add zero [] = zero := rfl

@[simp] theorem sumOf_cons {α : Type} (add : α → α → α) (zero x : α) (xs : List α) : sumOf add zero (x :: xs) = xs.foldl add x := rfl

/-- The machine's sums of reals are exact. -/
theorem rsum_machineArith (l : List Rat) : rsum machineArith l = l.sum := by
  cases l with
  | nil => rfl
  | cons x xs =>
    have h : ∀ (ys : List Rat) (a : Rat), ys.foldl (fun p q => p + q) a = a + ys.sum := by
      intro ys
      induction ys with
      | nil => simp
      | cons y ys ih => intro a; simp [ih, add_assoc]
    exact h xs x

/-- The other values of a list of `N`. -/
theorem othersOf_length_le {R C : Type} (A : Arith R C) (n k : Nat) (l : List R) : (othersOf A n l k).length ≤ n := by
  simpa [othersOf] using List.length_filter_le _ (List.range n)

theorem peakFrom_lt {R C : Type} (A : Arith R C) (best : R) (bi i : Nat) (l : List R) (h : bi < i) :
    peakFrom A best bi i l < i + l.length := by
  induction l generalizing best bi i with
  | nil => simpa [peakFrom] using h
  | cons x xs ih =>
    simp only [peakFrom]
    split
    · have := ih x i (i + 1) (by omega); simp only [List.length_cons]; omega
    · have := ih best bi (i + 1) (by omega); simp only [List.length_cons]; omega

/-- A peak is an index of its list. -/
theorem peak_lt {R C : Type} (A : Arith R C) {l : List R} (h : l ≠ []) : peak A l < l.length := by
  cases l with
  | nil => exact absurd rfl h
  | cons x xs =>
    have := peakFrom_lt A x 0 1 xs (by omega)
    simp only [peak, List.length_cons]; omega

/-! ### Shared actions -/

theorem nextPhase_cases (s : State) : nextPhase s = .search ∨ nextPhase s = .done := by
  unfold nextPhase
  split
  · exact .inr rfl
  · split
    · exact .inr rfl
    · exact .inl rfl

/-- `lock` (48 R225): an explicit header is demodulated next, an implicit one is set up at once. -/
theorem lockOn_cases (c : Int) (f : Rat) (n : Nat) (x : Ext Rat) (a : Nat) (s : State) :
    (s.cfg.implicit = true ∧ lockOn c f n x a s = setupPayload { lockRegs c f n x a s with hdrf := implicitHdrf s.cfg }) ∨
    (s.cfg.implicit = false ∧
      lockOn c f n x a s = { lockRegs c f n x a s with hdrf := .reset, blklen := 8, phase := .hdrDemod }) := by
  unfold lockOn
  cases h : s.cfg.implicit <;> simp [h]

/-- A starved operation holds, ends the run, or drops the frame in progress (48 R235). -/
theorem starve_cases (ph : Phase) (s : State) :
    starve ph s = s ∨
    (s.eos = true ∧ (ph = .search ∨ ph = .sync) ∧ starve ph s = { unlock s with phase := .done }) ∨
    (s.eos = true ∧ (ph = .hdrDemod ∨ ph = .payDemod) ∧ starve ph s =
      { unlock (raise .insufficientSamples s) with hdrf := { s.hdrf with valid := false }, phase := .done }) := by
  unfold starve
  cases h : s.eos
  · exact .inl rfl
  · cases ph <;> simp [endOfStream]

/-! ### Operations of the phases -/

/-- PREAMBLE_SEARCH (41 R121): starved, no candidate, or a candidate for SYNC_MATCH. -/
theorem preambleSearchOp_cases (s : State) :
    (searchResult s = none ∧ preambleSearchOp s = starve .search s) ∨
    (searchResult s = some none ∧ preambleSearchOp s = syncFailed (raise .syncNotFound s)) ∨
    (∃ q cf snr, searchResult s = some (some (q, cf, snr)) ∧
      preambleSearchOp s = { s with cand := ⟨q, cf, snr⟩, phase := .sync }) := by
  unfold preambleSearchOp
  rcases h : searchResult s with _ | _ | ⟨q, cf, snr⟩
  · exact .inl ⟨rfl, rfl⟩
  · exact .inr (.inl ⟨rfl, rfl⟩)
  · exact .inr (.inr ⟨q, cf, snr, rfl, rfl⟩)

/-- SYNC_MATCH (41 R129): starved, failed with one of two errors, or locked. -/
theorem syncMatchOp_cases (s : State) :
    (syncResult s = none ∧ syncMatchOp s = starve .sync s) ∨
    (syncResult s = some .notFound ∧ syncMatchOp s = syncFailed (raise .syncNotFound s)) ∨
    (syncResult s = some .cfoOut ∧ syncMatchOp s = syncFailed (raise .cfoOutOfRange s)) ∨
    (∃ c sto start, syncResult s = some (.locked c sto start) ∧
      syncMatchOp s = lockOn c s.cand.cfoFrac sto s.cand.snrDb start s) := by
  unfold syncMatchOp
  rcases h : syncResult s with _ | _ | _ | ⟨c, sto, start⟩
  · exact .inl ⟨rfl, rfl⟩
  · exact .inr (.inl ⟨rfl, rfl⟩)
  · exact .inr (.inr (.inl ⟨rfl, rfl⟩))
  · exact .inr (.inr (.inr ⟨c, sto, start, rfl, rfl⟩))

/-- INJECT_SEARCH (48 R240). -/
theorem injectSearchOp_cases (s : State) :
    (s.avail ≤ s.p ∧ injectSearchOp s = starve .search s) ∨
    (s.p < s.avail ∧ injectSearchOp s = lockOn 0 0 0 (.fin 0) s.p s) := by
  unfold injectSearchOp
  split
  · exact .inl ⟨‹_›, rfl⟩
  · exact .inr ⟨Nat.lt_of_not_le ‹_›, rfl⟩

/-- DEMOD_SYMBOL (42 R150): starved, or one symbol more. -/
theorem demodSymbolOp_cases (ph full : Phase) (s : State) :
    (s.avail < s.sympos + s.cfg.wlen ∧ demodSymbolOp ph full s = starve ph s) ∨
    (∃ win, window s s.cfg.wlen s.sympos = some win ∧ demodSymbolOp ph full s =
      { s with
        symbuf := s.symbuf ++ [(demodWindow s win).kHat]
        diag := s.diag ++ [demodWindow s win]
        sympos := s.sympos + s.cfg.wlen
        phase := if s.symbuf.length + 1 = s.blklen then full else s.phase }) := by
  unfold demodSymbolOp
  cases h : window s s.cfg.wlen s.sympos with
  | none => exact .inl ⟨window_eq_none.mp h, rfl⟩
  | some win => exact .inr ⟨win, rfl, by simp⟩

/-- HEADER_DECODE (44 R186): three ways to abort, or the payload is set up. -/
theorem headerDecodeOp_cases (s : State) :
    headerDecodeOp s = headerAborted (raise .hammingUncorrectable { s with hdrf := .reset }) ∨
    (∃ len cr crc, headerDecodeOp s = headerAborted (raise .headerCrcMismatch { s with hdrf := ⟨len, cr, crc, false, false⟩ })) ∨
    (∃ len cr crc, headerDecodeOp s = headerAborted (raise .headerFieldInvalid { s with hdrf := ⟨len, cr, crc, true, false⟩ })) ∨
    (∃ (len : BitVec 8) (cr : BitVec 3) (crc : Bool), 1 ≤ cr.toNat ∧ cr.toNat ≤ 4 ∧
      headerDecodeOp s = setupPayload { s with hdrf := ⟨len, cr, crc, true, true⟩ }) := by
  unfold headerDecodeOp
  split
  · dsimp only
    split
    · exact .inr (.inl ⟨_, _, _, rfl⟩)
    · split
      · exact .inr (.inr (.inl ⟨_, _, _, rfl⟩))
      · exact .inr (.inr (.inr ⟨_, _, _, by omega, by omega, rfl⟩))
  · exact .inl rfl

/-- What the rows of one payload block add (45 R193): nibbles up to `need`, and a count of at most as many uncorrectable rows. -/
theorem payloadRows_spec (cr need : Nat) (cw : List Nat) (nib : List Nib) (unc : Nat) (h : nib.length ≤ need) :
    (payloadRows cr need cw nib unc).1.length = min need (nib.length + cw.length) ∧
    unc ≤ (payloadRows cr need cw nib unc).2 ∧
    (payloadRows cr need cw nib unc).2 + nib.length ≤ unc + (payloadRows cr need cw nib unc).1.length := by
  induction cw generalizing nib unc with
  | nil => simp [payloadRows]; omega
  | cons c cs ih =>
    simp only [payloadRows, List.length_cons]
    split
    · simp; omega
    · have hu : unc ≤ (if (hamDec c cr).2 = .uncorrectable then unc + 1 else unc) ∧
          (if (hamDec c cr).2 = .uncorrectable then unc + 1 else unc) ≤ unc + 1 := by split <;> omega
      generalize (if (hamDec c cr).2 = HamStatus.uncorrectable then unc + 1 else unc) = u at hu ⊢
      have := ih (nib ++ [(hamDec c cr).1]) u (by simp; omega)
      simp only [List.length_append, List.length_cons, List.length_nil] at this
      omega

/-- PAYLOAD_BLOCK_DECODE (45 R193): it may report, and it goes on. -/
theorem payloadBlockOp_cases (s : State) : ∃ (t : State) (r : List Nib × Nat),
    (t = s ∨ t = raise .payloadHammingUncorrectable s) ∧
    r = payloadRows s.hdrf.codingRate.toNat s.need
      (deinterleave s.cfg.sfAppPay (blockValues s (s.hdrf.codingRate.toNat + 4) s.cfg.sfAppPay)) s.nib s.hamUnc ∧
    payloadBlockOp s =
      { t with nib := r.1, hamUnc := r.2, symbuf := [], phase := if r.1.length < s.need then .payDemod else .dewhiten } := by
  refine ⟨_, _, ?_, rfl, rfl⟩
  split
  · exact .inr rfl
  · exact .inl rfl

theorem deinterleave_length (sfApp : Nat) (v : List Nat) : (deinterleave sfApp v).length = sfApp := by simp [deinterleave]

theorem nib2byte_length (nib : List Nib) (n : Nat) : (nib2byte nib n).length = n := by simp [nib2byte]

theorem whiten_length (k : Nat) (l : BitVec 9) (bs : List Byte) : (whiten k l bs).1.length = bs.length := by
  induction k generalizing l bs with
  | zero => rfl
  | succ k ih => cases bs <;> simp [whiten, ih]

/-- The register steps one byte for each byte asked for, whatever the list holds (46 R203; log 14). -/
theorem whiten_register (k : Nat) (l : BitVec 9) (bs : List Byte) : (whiten k l bs).2 = (fun r => (pn9Byte r).2)^[k] l := by
  induction k generalizing l bs with
  | zero => rfl
  | succ k ih => cases bs <;> simp [whiten, ih]

/-- A list long enough gives its own first bytes. -/
theorem firstBytes_eq_take {l : List Byte} {n : Nat} (h : n ≤ l.length) : firstBytes l n = l.take n := by
  apply List.ext_getElem
  · simp [firstBytes, h]
  · intro i h1 h2
    simp only [firstBytes, List.length_map, List.length_range] at h1
    simp [firstBytes, byteAt, List.getD_eq_getElem?_getD, Nat.lt_of_lt_of_le h1 h]

/-- CRC_CHECK (47 R208): without a CRC, with a matching one, or with a mismatch that is reported. -/
theorem crcCheckOp_cases (s : State) :
    (s.hdrf.hasCrc = false ∧
      crcCheckOp s = { s with crcRx := 0, crcCalc := 0, crcChecked := false, crcOk := true, phase := .emit }) ∨
    (∃ (rx own : BitVec 16) (t : State), s.hdrf.hasCrc = true ∧ (t = s ∨ t = raise .payloadCrcMismatch s) ∧
      crcCheckOp s = { t with crcRx := rx, crcCalc := own, crcChecked := true, crcOk := decide (rx = own), phase := .emit }) := by
  unfold crcCheckOp
  cases h : s.hdrf.hasCrc
  · exact .inl ⟨rfl, rfl⟩
  · refine .inr ⟨_, _, _, rfl, ?_, rfl⟩
    split
    · exact .inl rfl
    · exact .inr rfl

/-- EMIT_FRAME (48 R233): it holds, or the record is pushed and the attempt ends. -/
theorem emitFrameOp_cases (s : State) :
    (s.inst.fifoDepth ≤ s.fifo.length ∧ emitFrameOp s = s) ∨
    (s.fifo.length < s.inst.fifoDepth ∧ emitFrameOp s = toNextSearch (unlock
      { s with
        fifo := s.fifo ++ [currentFrame s]
        frameCount := s.frameCount + 1
        p := s.sympos
        hdrf := { s.hdrf with valid := false } })) := by
  unfold emitFrameOp
  by_cases h : s.inst.fifoDepth ≤ s.fifo.length
  · exact .inl ⟨h, by simp [fifoFull, h]⟩
  · exact .inr ⟨Nat.lt_of_not_le h, by simp [fifoFull, h]⟩

/-! ### Host operations -/

/-- One beat (48 R216): refused, not ready, or stored; a sample may be reported as not finite. -/
theorem inBeat_cases (b : Beat) (s : State) :
    inBeat b s = raise .commandInvalid s ∨ inBeat b s = s ∨
    (running s = true ∧ s.eos = false ∧ storeFull s = false ∧
      (inBeat b s = appendSample (beatEntry s b).1 s ∨
       inBeat b s = raise .nonFiniteSample (appendSample (beatEntry s b).1 s))) := by
  unfold inBeat
  by_cases h : (!running s || s.eos) = true
  · exact .inl (if_pos h)
  · rw [if_neg h]
    by_cases hf : storeFull s = true
    · exact .inr (.inl (if_pos hf))
    · rw [if_neg hf]
      refine .inr (.inr ⟨by simp_all, by simp_all, by simp_all, ?_⟩)
      split
      · exact .inr rfl
      · exact .inl rfl

/-- START (48 R221). -/
theorem startOp_cases (s : State) :
    (running s = true ∧ startOp s = raise .commandInvalid s) ∨
    (running s = false ∧ configOk s.csr = true ∧ startOp s = startRun s) ∨
    (running s = false ∧ configOk s.csr = false ∧ startOp s = raise .configInvalid s) := by
  unfold startOp
  cases running s <;> cases configOk s.csr <;> simp

/-- EOS (48 R218). -/
theorem eosOp_cases (s : State) :
    (running s = true ∧ eosOp s = { s with eos := true }) ∨ (running s = false ∧ eosOp s = raise .commandInvalid s) := by
  unfold eosOp
  cases running s <;> simp

/-- POP (48 R222). -/
theorem popOp_cases (s : State) :
    (s.fifo = [] ∧ popOp s = { raise .commandInvalid s with frameOut := [] }) ∨
    (∃ f rest, s.fifo = f :: rest ∧ popOp s = { s with fifo := rest, frameOut := frameWords f }) := by
  unfold popOp
  cases h : s.fifo with
  | nil => exact .inl ⟨rfl, rfl⟩
  | cons f rest => exact .inr ⟨f, rest, rfl, rfl⟩

/-- A command (30_encoding R96). -/
theorem command_cases (code : BitVec 4) (s : State) :
    command code s = s ∨ command code s = startOp s ∨ command code s = eosOp s ∨ command code s = popOp s ∨
    command code s = resetOp s ∨ command code s = raise .commandInvalid s := by
  unfold command
  split <;> simp

/-- A write of a register (10_state R21). -/
theorem csrWrite_cases (n : Nat) (v : Word32) (s : State) :
    (n = 0 ∧ csrWrite n v s = command (v.extractLsb' 0 4) s) ∨
    (running s = false ∧ csrWrite n v s = { s with csr := csrSet n v s.csr }) ∨
    csrWrite n v s = raise .commandInvalid s := by
  unfold csrWrite
  split
  · exact .inl ⟨‹_›, rfl⟩
  · split
    · cases h : running s
      · exact .inr (.inl ⟨rfl, by simp⟩)
      · exact .inr (.inr (by simp))
    · exact .inr (.inr rfl)

/-- A read of a register (10_state R21). -/
theorem csrRead_cases (n : Nat) (s : State) :
    csrRead n s = { s with rdata := csrView n s } ∨ csrRead n s = { raise .commandInvalid s with rdata := 0 } := by
  unfold csrRead
  split
  · exact .inl rfl
  · exact .inr rfl

/-! ### Moves of the agents -/

/-- Everything a host transaction can do to the state `s`. -/
inductive HostEffect (s : State) : State → Prop where
  | nothing : HostEffect s s
  | refused : HostEffect s (raise .commandInvalid s)
  | readback (v : Word32) : HostEffect s { s with rdata := v }
  | badRead : HostEffect s { raise .commandInvalid s with rdata := 0 }
  | config (c : Csr) (idle : running s = false) : HostEffect s { s with csr := c }
  | beat (b : Beat) (run : running s = true) (more : s.eos = false) (room : storeFull s = false) :
      HostEffect s (appendSample (beatEntry s b).1 s)
  | badBeat (b : Beat) (run : running s = true) (more : s.eos = false) (room : storeFull s = false) :
      HostEffect s (raise .nonFiniteSample (appendSample (beatEntry s b).1 s))
  | start (idle : running s = false) (ok : configOk s.csr = true) : HostEffect s (startRun s)
  | badStart (idle : running s = false) (bad : configOk s.csr = false) : HostEffect s (raise .configInvalid s)
  | endStream (run : running s = true) : HostEffect s { s with eos := true }
  | pop (f : Frame) (rest : List Frame) (head : s.fifo = f :: rest) :
      HostEffect s { s with fifo := rest, frameOut := frameWords f }
  | badPop (empty : s.fifo = []) : HostEffect s { raise .commandInvalid s with frameOut := [] }
  | reset : HostEffect s (resetOp s)

theorem inBeat_effect (b : Beat) (s : State) : HostEffect s (inBeat b s) := by
  rcases inBeat_cases b s with h | h | ⟨h1, h2, h3, h | h⟩ <;> rw [h]
  · exact .refused
  · exact .nothing
  · exact .beat b h1 h2 h3
  · exact .badBeat b h1 h2 h3

theorem startOp_effect (s : State) : HostEffect s (startOp s) := by
  rcases startOp_cases s with ⟨_, h⟩ | ⟨h1, h2, h⟩ | ⟨h1, h2, h⟩ <;> rw [h]
  · exact .refused
  · exact .start h1 h2
  · exact .badStart h1 h2

theorem eosOp_effect (s : State) : HostEffect s (eosOp s) := by
  rcases eosOp_cases s with ⟨h1, h⟩ | ⟨_, h⟩ <;> rw [h]
  · exact .endStream h1
  · exact .refused

theorem popOp_effect (s : State) : HostEffect s (popOp s) := by
  rcases popOp_cases s with ⟨h1, h⟩ | ⟨f, rest, h1, h⟩ <;> rw [h]
  · exact .badPop h1
  · exact .pop f rest h1

theorem command_effect (code : BitVec 4) (s : State) : HostEffect s (command code s) := by
  rcases command_cases code s with h | h | h | h | h | h <;> rw [h]
  · exact .nothing
  · exact startOp_effect s
  · exact eosOp_effect s
  · exact popOp_effect s
  · exact .reset
  · exact .refused

theorem csrWrite_effect (n : Nat) (v : Word32) (s : State) : HostEffect s (csrWrite n v s) := by
  rcases csrWrite_cases n v s with ⟨_, h⟩ | ⟨h1, h⟩ | h <;> rw [h]
  · exact command_effect _ s
  · exact .config _ h1
  · exact .refused

theorem csrRead_effect (n : Nat) (s : State) : HostEffect s (csrRead n s) := by
  rcases csrRead_cases n s with h | h <;> rw [h]
  · exact .readback _
  · exact .badRead

theorem csrAccess_effect (n : Nat) (a : CsrAccess) (s : State) : HostEffect s (csrAccess n a s) := by
  cases a
  · exact csrRead_effect n s
  · exact csrWrite_effect n _ s

/-- A move of an agent is the CORE step or has the effect of a host transaction. -/
theorem exec_agentMove {i : Instr} (hi : i.isAgentMove = true) (s : State) :
    (i = .coreStep ∧ exec i s = .next (coreStepOp s)) ∨ ∃ t, exec i s = .next t ∧ HostEffect s t := by
  cases i <;> first
    | exact absurd hi (by decide)
    | exact .inl ⟨rfl, rfl⟩
    | exact .inr ⟨_, rfl, csrAccess_effect _ _ s⟩
    | exact .inr ⟨_, rfl, csrWrite_effect _ _ s⟩
    | exact .inr ⟨_, rfl, csrRead_effect _ s⟩
    | exact .inr ⟨_, rfl, inBeat_effect _ s⟩
    | exact .inr ⟨_, rfl, popOp_effect s⟩
    | exact .inr ⟨_, rfl, startOp_effect s⟩
    | exact .inr ⟨_, rfl, eosOp_effect s⟩
    | exact .inr ⟨_, rfl, .reset⟩
    | exact .inr ⟨_, rfl, .refused⟩
    | exact .inr ⟨_, rfl, .nothing⟩

end Sys2Proof.Machine
end

