-- ==== Sys2Proof/Laws/Memory.lean ====
section
/-! SUPPORT. The sample store: a read after a write, what a write leaves alone, and that every operation keeps the store's canonical
form (`Memory.wf`: exactly the entries below AVAIL). -/

namespace Sys2Proof.Machine

theorem memory_wf_iff {s : State} : Memory.wf s = true ↔ s.store.length = s.avail := by simp [Memory.wf]

/-- The form depends on the store and AVAIL alone. -/
theorem memory_wf_congr {s t : State} (hs : t.store = s.store) (ha : t.avail = s.avail) : Memory.wf t = Memory.wf s := by
  simp [Memory.wf, hs, ha]

theorem reset_memory_wf : Memory.wf State.reset = true := rfl

theorem startRun_memory_wf (s : State) : Memory.wf (startRun s) = true := rfl

theorem resetOp_memory_wf (s : State) : Memory.wf (resetOp s) = true := rfl

theorem appendSample_memory_wf {s : State} (z : Cx) (h : Memory.wf s = true) : Memory.wf (appendSample z s) = true := by
  simp_all [Memory.wf]

/-- Reading the entry just appended. -/
theorem sampleAt_appendSample_self {s : State} (z : Cx) (h : Memory.wf s = true) (hr : retire s ≤ s.avail) :
    sampleAt (appendSample z s) s.avail = z := by
  rw [sampleAt_live (s := appendSample z s) hr (by simp [memory_wf_iff.mp h])]
  simp [← memory_wf_iff.mp h]

/-- Appending leaves every other entry alone. -/
theorem sampleAt_appendSample_other {s : State} (z : Cx) (h : Memory.wf s = true) {i : Nat} (hi : i ≠ s.avail) :
    sampleAt (appendSample z s) i = sampleAt s i := by
  have hl := memory_wf_iff.mp h
  have hr : retire (appendSample z s) = retire s := rfl
  unfold sampleAt
  rw [hr]
  split
  · rfl
  · rcases Nat.lt_or_ge i s.store.length with hlt | hge
    · simp [List.getD_eq_getElem?_getD, List.getElem?_append, hlt]
    · rw [List.getD_eq_default _ _ (by simp; omega), List.getD_eq_default _ _ hge]

/-- What an operation reads stays readable, and the same, when the host appends (20_memory R64). -/
theorem window_appendSample {s : State} (z : Cx) (h : Memory.wf s = true) {len a : Nat} {l : List Cx}
    (hw : window s len a = some l) : window (appendSample z s) len a = some l := by
  obtain ⟨ha, rfl⟩ := window_eq_some hw
  unfold window
  rw [if_pos (by simp; omega)]
  congr 1
  refine List.map_congr_left fun m hm => ?_
  exact sampleAt_appendSample_other z h (by have := List.mem_range.mp hm; omega)

/-! ### No operation of the CORE touches the store -/

theorem starve_store (ph : Phase) (s : State) : (starve ph s).store = s.store ∧ (starve ph s).avail = s.avail := by
  rcases starve_cases ph s with h | ⟨_, _, h⟩ | ⟨_, _, h⟩ <;> rw [h] <;> exact ⟨rfl, rfl⟩

theorem lockOn_store (c : Int) (f : Rat) (n : Nat) (x : Ext Rat) (a : Nat) (s : State) :
    (lockOn c f n x a s).store = s.store ∧ (lockOn c f n x a s).avail = s.avail := by
  rcases lockOn_cases c f n x a s with ⟨_, h⟩ | ⟨_, h⟩ <;> rw [h] <;> exact ⟨rfl, rfl⟩

theorem preambleSearchOp_store (s : State) : (preambleSearchOp s).store = s.store ∧ (preambleSearchOp s).avail = s.avail := by
  rcases preambleSearchOp_cases s with ⟨_, h⟩ | ⟨_, h⟩ | ⟨_, _, _, _, h⟩ <;> rw [h]
  · exact starve_store _ s
  · exact ⟨rfl, rfl⟩
  · exact ⟨rfl, rfl⟩

theorem syncMatchOp_store (s : State) : (syncMatchOp s).store = s.store ∧ (syncMatchOp s).avail = s.avail := by
  rcases syncMatchOp_cases s with ⟨_, h⟩ | ⟨_, h⟩ | ⟨_, h⟩ | ⟨_, _, _, _, h⟩ <;> rw [h]
  · exact starve_store _ s
  · exact ⟨rfl, rfl⟩
  · exact ⟨rfl, rfl⟩
  · exact lockOn_store _ _ _ _ _ s

theorem injectSearchOp_store (s : State) : (injectSearchOp s).store = s.store ∧ (injectSearchOp s).avail = s.avail := by
  rcases injectSearchOp_cases s with ⟨_, h⟩ | ⟨_, h⟩ <;> rw [h]
  · exact starve_store _ s
  · exact lockOn_store _ _ _ _ _ s

theorem demodSymbolOp_store (ph full : Phase) (s : State) :
    (demodSymbolOp ph full s).store = s.store ∧ (demodSymbolOp ph full s).avail = s.avail := by
  rcases demodSymbolOp_cases ph full s with ⟨_, h⟩ | ⟨_, _, h⟩ <;> rw [h]
  · exact starve_store _ s
  · exact ⟨rfl, rfl⟩

theorem headerDecodeOp_store (s : State) : (headerDecodeOp s).store = s.store ∧ (headerDecodeOp s).avail = s.avail := by
  rcases headerDecodeOp_cases s with h | ⟨_, _, _, h⟩ | ⟨_, _, _, h⟩ | ⟨_, _, _, _, _, h⟩ <;> rw [h] <;> exact ⟨rfl, rfl⟩

theorem payloadBlockOp_store (s : State) : (payloadBlockOp s).store = s.store ∧ (payloadBlockOp s).avail = s.avail := by
  obtain ⟨t, r, ht, _, h⟩ := payloadBlockOp_cases s
  rw [h]
  rcases ht with rfl | rfl <;> exact ⟨rfl, rfl⟩

theorem crcCheckOp_store (s : State) : (crcCheckOp s).store = s.store ∧ (crcCheckOp s).avail = s.avail := by
  rcases crcCheckOp_cases s with ⟨_, h⟩ | ⟨_, _, t, _, ht, h⟩ <;> rw [h]
  · exact ⟨rfl, rfl⟩
  · rcases ht with rfl | rfl <;> exact ⟨rfl, rfl⟩

theorem emitFrameOp_store (s : State) : (emitFrameOp s).store = s.store ∧ (emitFrameOp s).avail = s.avail := by
  rcases emitFrameOp_cases s with ⟨_, h⟩ | ⟨_, h⟩ <;> rw [h] <;> exact ⟨rfl, rfl⟩

/-- A CORE step writes neither the store nor AVAIL (20_memory R70). -/
theorem coreStepOp_store (s : State) : (coreStepOp s).store = s.store ∧ (coreStepOp s).avail = s.avail := by
  unfold coreStepOp
  split
  · exact ⟨rfl, rfl⟩
  · split
    · exact injectSearchOp_store s
    · exact preambleSearchOp_store s
  · exact syncMatchOp_store s
  · exact demodSymbolOp_store _ _ s
  · exact headerDecodeOp_store s
  · exact demodSymbolOp_store _ _ s
  · exact payloadBlockOp_store s
  · exact ⟨rfl, rfl⟩
  · exact crcCheckOp_store s
  · exact emitFrameOp_store s
  · exact ⟨rfl, rfl⟩

theorem coreStepOp_memory_wf {s : State} (h : Memory.wf s = true) : Memory.wf (coreStepOp s) = true :=
  (memory_wf_congr (coreStepOp_store s).1 (coreStepOp_store s).2).trans h

/-- No host transaction breaks the form. -/
theorem HostEffect.memory_wf {s t : State} (e : HostEffect s t) (h : Memory.wf s = true) : Memory.wf t = true := by
  cases e with
  | beat b => exact appendSample_memory_wf _ h
  | badBeat b => exact appendSample_memory_wf _ h
  | start => exact startRun_memory_wf s
  | reset => exact resetOp_memory_wf s
  | _ => exact h

end Sys2Proof.Machine
end

