-- ==== Sys2Proof/Laws/PerInstr.lean ====
section
/-! SUPPORT. Statements made for each instruction, with one lemma for each constructor. -/

namespace Sys2Proof.Laws

/-- The packet of an instruction starts with a kind byte of 0 to 12 and is at most nine bytes long (log 1). -/
def PacketShape.Statement (i : Instr) : Prop := ∃ k ops, encode i = k :: ops ∧ k.toNat ≤ 12 ∧ ops.length ≤ 8

namespace PacketShape

theorem csrW (n : Byte) (v : Word32) : Statement (.csrW n v) := ⟨_, _, rfl, by decide, by simp [le32]⟩
theorem csrR (n : Byte) : Statement (.csrR n) := ⟨_, _, rfl, by decide, by simp⟩
theorem push (b : Beat) : Statement (.push b) := ⟨_, _, rfl, by decide, by simp [le64]⟩
theorem pushsym (b : Beat) : Statement (.pushsym b) := ⟨_, _, rfl, by decide, by simp [le64]⟩
theorem outPop : Statement .outPop := ⟨_, _, rfl, by decide, by decide⟩
theorem nop (ign : BitVec 28) : Statement (.nop ign) := ⟨_, _, rfl, by decide, by simp [le32]⟩
theorem start (ign : BitVec 28) : Statement (.start ign) := ⟨_, _, rfl, by decide, by simp [le32]⟩
theorem eos (ign : BitVec 28) : Statement (.eos ign) := ⟨_, _, rfl, by decide, by simp [le32]⟩
theorem pop (ign : BitVec 28) : Statement (.pop ign) := ⟨_, _, rfl, by decide, by simp [le32]⟩
theorem cmdReserved4 (ign : BitVec 28) : Statement (.cmdReserved4 ign) := ⟨_, _, rfl, by decide, by simp [le32]⟩
theorem cmdReserved5 (ign : BitVec 28) : Statement (.cmdReserved5 ign) := ⟨_, _, rfl, by decide, by simp [le32]⟩
theorem cmdReserved6 (ign : BitVec 28) : Statement (.cmdReserved6 ign) := ⟨_, _, rfl, by decide, by simp [le32]⟩
theorem cmdReserved7 (ign : BitVec 28) : Statement (.cmdReserved7 ign) := ⟨_, _, rfl, by decide, by simp [le32]⟩
theorem cmdReserved8 (ign : BitVec 28) : Statement (.cmdReserved8 ign) := ⟨_, _, rfl, by decide, by simp [le32]⟩
theorem cmdReserved9 (ign : BitVec 28) : Statement (.cmdReserved9 ign) := ⟨_, _, rfl, by decide, by simp [le32]⟩
theorem cmdReserved10 (ign : BitVec 28) : Statement (.cmdReserved10 ign) := ⟨_, _, rfl, by decide, by simp [le32]⟩
theorem cmdReserved11 (ign : BitVec 28) : Statement (.cmdReserved11 ign) := ⟨_, _, rfl, by decide, by simp [le32]⟩
theorem cmdReserved12 (ign : BitVec 28) : Statement (.cmdReserved12 ign) := ⟨_, _, rfl, by decide, by simp [le32]⟩
theorem cmdReserved13 (ign : BitVec 28) : Statement (.cmdReserved13 ign) := ⟨_, _, rfl, by decide, by simp [le32]⟩
theorem cmdReserved14 (ign : BitVec 28) : Statement (.cmdReserved14 ign) := ⟨_, _, rfl, by decide, by simp [le32]⟩
theorem reset (ign : BitVec 28) : Statement (.reset ign) := ⟨_, _, rfl, by decide, by simp [le32]⟩
theorem csrCtrl (a : CsrAccess) : Statement (.csrCtrl a) := by cases a <;> exact ⟨_, _, rfl, by decide, by simp [le32]⟩
theorem csrStatus (a : CsrAccess) : Statement (.csrStatus a) := by cases a <;> exact ⟨_, _, rfl, by decide, by simp [le32]⟩
theorem csrErr (a : CsrAccess) : Statement (.csrErr a) := by cases a <;> exact ⟨_, _, rfl, by decide, by simp [le32]⟩
theorem csrLastErr (a : CsrAccess) : Statement (.csrLastErr a) := by cases a <;> exact ⟨_, _, rfl, by decide, by simp [le32]⟩
theorem csrSf (a : CsrAccess) : Statement (.csrSf a) := by cases a <;> exact ⟨_, _, rfl, by decide, by simp [le32]⟩
theorem csrBw (a : CsrAccess) : Statement (.csrBw a) := by cases a <;> exact ⟨_, _, rfl, by decide, by simp [le32]⟩
theorem csrFs (a : CsrAccess) : Statement (.csrFs a) := by cases a <;> exact ⟨_, _, rfl, by decide, by simp [le32]⟩
theorem csrCr (a : CsrAccess) : Statement (.csrCr a) := by cases a <;> exact ⟨_, _, rfl, by decide, by simp [le32]⟩
theorem csrSyncWord (a : CsrAccess) : Statement (.csrSyncWord a) := by cases a <;> exact ⟨_, _, rfl, by decide, by simp [le32]⟩
theorem csrMode (a : CsrAccess) : Statement (.csrMode a) := by cases a <;> exact ⟨_, _, rfl, by decide, by simp [le32]⟩
theorem csrPayloadLen (a : CsrAccess) : Statement (.csrPayloadLen a) := by cases a <;> exact ⟨_, _, rfl, by decide, by simp [le32]⟩
theorem csrLdroMode (a : CsrAccess) : Statement (.csrLdroMode a) := by cases a <;> exact ⟨_, _, rfl, by decide, by simp [le32]⟩
theorem csrNPreamble (a : CsrAccess) : Statement (.csrNPreamble a) := by cases a <;> exact ⟨_, _, rfl, by decide, by simp [le32]⟩
theorem csrSearchWin (a : CsrAccess) : Statement (.csrSearchWin a) := by cases a <;> exact ⟨_, _, rfl, by decide, by simp [le32]⟩
theorem csrCfoMax (a : CsrAccess) : Statement (.csrCfoMax a) := by cases a <;> exact ⟨_, _, rfl, by decide, by simp [le32]⟩
theorem csrFrameLimit (a : CsrAccess) : Statement (.csrFrameLimit a) := by cases a <;> exact ⟨_, _, rfl, by decide, by simp [le32]⟩
theorem csrAttemptLimit (a : CsrAccess) : Statement (.csrAttemptLimit a) := by cases a <;> exact ⟨_, _, rfl, by decide, by simp [le32]⟩
theorem csrSyncCfoInt (a : CsrAccess) : Statement (.csrSyncCfoInt a) := by cases a <;> exact ⟨_, _, rfl, by decide, by simp [le32]⟩
theorem csrSyncCfoFrac (a : CsrAccess) : Statement (.csrSyncCfoFrac a) := by cases a <;> exact ⟨_, _, rfl, by decide, by simp [le32]⟩
theorem csrSyncSto (a : CsrAccess) : Statement (.csrSyncSto a) := by cases a <;> exact ⟨_, _, rfl, by decide, by simp [le32]⟩
theorem csrSyncSnrDb (a : CsrAccess) : Statement (.csrSyncSnrDb a) := by cases a <;> exact ⟨_, _, rfl, by decide, by simp [le32]⟩
theorem csrHdrStartLo (a : CsrAccess) : Statement (.csrHdrStartLo a) := by cases a <;> exact ⟨_, _, rfl, by decide, by simp [le32]⟩
theorem csrHdrStartHi (a : CsrAccess) : Statement (.csrHdrStartHi a) := by cases a <;> exact ⟨_, _, rfl, by decide, by simp [le32]⟩
theorem csrHdr (a : CsrAccess) : Statement (.csrHdr a) := by cases a <;> exact ⟨_, _, rfl, by decide, by simp [le32]⟩
theorem csrPosLo (a : CsrAccess) : Statement (.csrPosLo a) := by cases a <;> exact ⟨_, _, rfl, by decide, by simp [le32]⟩
theorem csrPosHi (a : CsrAccess) : Statement (.csrPosHi a) := by cases a <;> exact ⟨_, _, rfl, by decide, by simp [le32]⟩
theorem csrAvailLo (a : CsrAccess) : Statement (.csrAvailLo a) := by cases a <;> exact ⟨_, _, rfl, by decide, by simp [le32]⟩
theorem csrAvailHi (a : CsrAccess) : Statement (.csrAvailHi a) := by cases a <;> exact ⟨_, _, rfl, by decide, by simp [le32]⟩
theorem csrFrameCount (a : CsrAccess) : Statement (.csrFrameCount a) := by cases a <;> exact ⟨_, _, rfl, by decide, by simp [le32]⟩
theorem csrNotfoundCount (a : CsrAccess) : Statement (.csrNotfoundCount a) := by cases a <;> exact ⟨_, _, rfl, by decide, by simp [le32]⟩
theorem csrAbortCount (a : CsrAccess) : Statement (.csrAbortCount a) := by cases a <;> exact ⟨_, _, rfl, by decide, by simp [le32]⟩
theorem csrFrameLevel (a : CsrAccess) : Statement (.csrFrameLevel a) := by cases a <;> exact ⟨_, _, rfl, by decide, by simp [le32]⟩
theorem csrUnmapped (n : Byte) (a : CsrAccess) : Statement (.csrUnmapped n a) := by cases a <;> exact ⟨_, _, rfl, by decide, by simp [le32]⟩
theorem idle : Statement .idle := ⟨_, _, rfl, by decide, by decide⟩
theorem preambleSearch : Statement .preambleSearch := ⟨_, _, rfl, by decide, by decide⟩
theorem syncMatch : Statement .syncMatch := ⟨_, _, rfl, by decide, by decide⟩
theorem demodSymbolHdr : Statement .demodSymbolHdr := ⟨_, _, rfl, by decide, by decide⟩
theorem headerDecode : Statement .headerDecode := ⟨_, _, rfl, by decide, by decide⟩
theorem demodSymbolPay : Statement .demodSymbolPay := ⟨_, _, rfl, by decide, by decide⟩
theorem payloadBlockDecode : Statement .payloadBlockDecode := ⟨_, _, rfl, by decide, by decide⟩
theorem dewhiten : Statement .dewhiten := ⟨_, _, rfl, by decide, by decide⟩
theorem crcCheck : Statement .crcCheck := ⟨_, _, rfl, by decide, by decide⟩
theorem emitFrame : Statement .emitFrame := ⟨_, _, rfl, by decide, by decide⟩
theorem done : Statement .done := ⟨_, _, rfl, by decide, by decide⟩
theorem injectSearch : Statement .injectSearch := ⟨_, _, rfl, by decide, by decide⟩
theorem coreStep : Statement .coreStep := ⟨_, _, rfl, by decide, by decide⟩
theorem eosAction : Statement .eosAction := ⟨_, _, rfl, by decide, by decide⟩
theorem chirpUp : Statement .chirpUp := ⟨_, _, rfl, by decide, by decide⟩
theorem chirpDown : Statement .chirpDown := ⟨_, _, rfl, by decide, by decide⟩
theorem chirpRefOs : Statement .chirpRefOs := ⟨_, _, rfl, by decide, by decide⟩
theorem f32ToNum : Statement .f32ToNum := ⟨_, _, rfl, by decide, by decide⟩
theorem circdist : Statement .circdist := ⟨_, _, rfl, by decide, by decide⟩
theorem argmaxPeak : Statement .argmaxPeak := ⟨_, _, rfl, by decide, by decide⟩
theorem stable : Statement .stable := ⟨_, _, rfl, by decide, by decide⟩
theorem fracCfo : Statement .fracCfo := ⟨_, _, rfl, by decide, by decide⟩
theorem snrEst : Statement .snrEst := ⟨_, _, rfl, by decide, by decide⟩
theorem coarseAlign : Statement .coarseAlign := ⟨_, _, rfl, by decide, by decide⟩
theorem fineTiming : Statement .fineTiming := ⟨_, _, rfl, by decide, by decide⟩
theorem syncSymbols : Statement .syncSymbols := ⟨_, _, rfl, by decide, by decide⟩
theorem findDownchirp : Statement .findDownchirp := ⟨_, _, rfl, by decide, by decide⟩
theorem syncWordMatch : Statement .syncWordMatch := ⟨_, _, rfl, by decide, by decide⟩
theorem cfoInt : Statement .cfoInt := ⟨_, _, rfl, by decide, by decide⟩
theorem cfoRangeCheck : Statement .cfoRangeCheck := ⟨_, _, rfl, by decide, by decide⟩
theorem hdrStartSto : Statement .hdrStartSto := ⟨_, _, rfl, by decide, by decide⟩
theorem syncFail : Statement .syncFail := ⟨_, _, rfl, by decide, by decide⟩
theorem dechirpFft : Statement .dechirpFft := ⟨_, _, rfl, by decide, by decide⟩
theorem decimate : Statement .decimate := ⟨_, _, rfl, by decide, by decide⟩
theorem dft : Statement .dft := ⟨_, _, rfl, by decide, by decide⟩
theorem cfoFracCorrect : Statement .cfoFracCorrect := ⟨_, _, rfl, by decide, by decide⟩
theorem cfoIntCorrect : Statement .cfoIntCorrect := ⟨_, _, rfl, by decide, by decide⟩
theorem peak : Statement .peak := ⟨_, _, rfl, by decide, by decide⟩
theorem bin2sym : Statement .bin2sym := ⟨_, _, rfl, by decide, by decide⟩
theorem grayEnc : Statement .grayEnc := ⟨_, _, rfl, by decide, by decide⟩
theorem grayDec : Statement .grayDec := ⟨_, _, rfl, by decide, by decide⟩
theorem symReduce : Statement .symReduce := ⟨_, _, rfl, by decide, by decide⟩
theorem symval : Statement .symval := ⟨_, _, rfl, by decide, by decide⟩
theorem diagnostics : Statement .diagnostics := ⟨_, _, rfl, by decide, by decide⟩
theorem interBin : Statement .interBin := ⟨_, _, rfl, by decide, by decide⟩
theorem deinterleave : Statement .deinterleave := ⟨_, _, rfl, by decide, by decide⟩
theorem rowToCodeword : Statement .rowToCodeword := ⟨_, _, rfl, by decide, by decide⟩
theorem interleave : Statement .interleave := ⟨_, _, rfl, by decide, by decide⟩
theorem hamEnc : Statement .hamEnc := ⟨_, _, rfl, by decide, by decide⟩
theorem hamDec : Statement .hamDec := ⟨_, _, rfl, by decide, by decide⟩
theorem nib2byte : Statement .nib2byte := ⟨_, _, rfl, by decide, by decide⟩
theorem hdrParse : Statement .hdrParse := ⟨_, _, rfl, by decide, by decide⟩
theorem hdrChk : Statement .hdrChk := ⟨_, _, rfl, by decide, by decide⟩
theorem nsym : Statement .nsym := ⟨_, _, rfl, by decide, by decide⟩
theorem pn9Step : Statement .pn9Step := ⟨_, _, rfl, by decide, by decide⟩
theorem pn9Byte : Statement .pn9Byte := ⟨_, _, rfl, by decide, by decide⟩
theorem crc16 : Statement .crc16 := ⟨_, _, rfl, by decide, by decide⟩
theorem loraCrc : Statement .loraCrc := ⟨_, _, rfl, by decide, by decide⟩
theorem crcRx : Statement .crcRx := ⟨_, _, rfl, by decide, by decide⟩
theorem configValid : Statement .configValid := ⟨_, _, rfl, by decide, by decide⟩
theorem ldroAuto : Statement .ldroAuto := ⟨_, _, rfl, by decide, by decide⟩
theorem lock : Statement .lock := ⟨_, _, rfl, by decide, by decide⟩
theorem payloadSetup : Statement .payloadSetup := ⟨_, _, rfl, by decide, by decide⟩
theorem headerAbort : Statement .headerAbort := ⟨_, _, rfl, by decide, by decide⟩
theorem nextSearch : Statement .nextSearch := ⟨_, _, rfl, by decide, by decide⟩
theorem raise : Statement .raise := ⟨_, _, rfl, by decide, by decide⟩
theorem frameWords : Statement .frameWords := ⟨_, _, rfl, by decide, by decide⟩
theorem hamDec5 : Statement .hamDec5 := ⟨_, _, rfl, by decide, by decide⟩
theorem hamDec6 : Statement .hamDec6 := ⟨_, _, rfl, by decide, by decide⟩
theorem hamDec7 : Statement .hamDec7 := ⟨_, _, rfl, by decide, by decide⟩
theorem hamDec8 : Statement .hamDec8 := ⟨_, _, rfl, by decide, by decide⟩

end PacketShape

end Sys2Proof.Laws
end

