-- ==== Sys2Proof/Tests/Slice0.lean ====
section
/-! SUPPORT. The model's own tests. Expected values come from the rules' worked examples and from 95_test_vectors, or by hand from the
encoding tables; `witness_…` theorems show a concrete state that meets the hypotheses of an obligation. -/

namespace Sys2Proof.Tests

open Sys2Proof Sys2Proof.Machine

/-! ### Well-formedness, decoding -/

/-- An ill-formed term: the row CSR_UNMAPPED with a number that a register has (10_state R21). -/
theorem test_wellFormed_refuses_mapped_number : (Instr.csrUnmapped 0x1F .rd).wellFormed = false := by decide

theorem test_wellFormed_accepts_unmapped_number : (Instr.csrUnmapped 0x20 .rd).wellFormed = true := by decide

/-- Transactions (30_encoding R95): number, value and beat bytes, least significant first. -/
theorem test_decode_txn :
    ∀ x ∈ [([0, 0x0A, 0x78, 0x56, 0x34, 0x12], Instr.csrW 0x0A 0x12345678), ([1, 0x1F], .csrR 0x1F), ([2, 0, 0, 0x80, 0x3F, 0, 0, 0, 0xBF], .push 0xBF0000003F800000), ([3, 33, 0, 0, 0, 0, 0, 0, 0], .pushsym 33),
      ([4], .outPop)],
      decode x.1 = .ok x.2 := by decide
/-- Commands: the code in bits 3:0 of the word written to CTRL (R96); here the ignored bits hold 0xA. -/
theorem test_decode_cmd :
    ∀ x ∈ [([5, 0xA0, 0, 0, 0], Instr.nop 0xA), ([5, 0xA1, 0, 0, 0], .start 0xA), ([5, 0xA2, 0, 0, 0], .eos 0xA), ([5, 0xA3, 0, 0, 0], .pop 0xA),
      ([5, 0xA4, 0, 0, 0], .cmdReserved4 0xA), ([5, 0xA5, 0, 0, 0], .cmdReserved5 0xA), ([5, 0xA6, 0, 0, 0], .cmdReserved6 0xA), ([5, 0xA7, 0, 0, 0], .cmdReserved7 0xA),
      ([5, 0xA8, 0, 0, 0], .cmdReserved8 0xA), ([5, 0xA9, 0, 0, 0], .cmdReserved9 0xA), ([5, 0xAA, 0, 0, 0], .cmdReserved10 0xA), ([5, 0xAB, 0, 0, 0], .cmdReserved11 0xA),
      ([5, 0xAC, 0, 0, 0], .cmdReserved12 0xA), ([5, 0xAD, 0, 0, 0], .cmdReserved13 0xA), ([5, 0xAE, 0, 0, 0], .cmdReserved14 0xA), ([5, 0xAF, 0, 0, 0], .reset 0xA)],
      decode x.1 = .ok x.2 := by decide
/-- Register numbers (10_state R45). -/
theorem test_decode_csr :
    ∀ x ∈ [([6, 0x00, 0], Instr.csrCtrl .rd), ([6, 0x01, 0], .csrStatus .rd), ([6, 0x02, 0], .csrErr .rd), ([6, 0x03, 0], .csrLastErr .rd),
      ([6, 0x04, 0], .csrSf .rd), ([6, 0x05, 0], .csrBw .rd), ([6, 0x06, 0], .csrFs .rd), ([6, 0x07, 0], .csrCr .rd),
      ([6, 0x08, 0], .csrSyncWord .rd), ([6, 0x09, 0], .csrMode .rd), ([6, 0x0A, 0], .csrPayloadLen .rd), ([6, 0x0B, 0], .csrLdroMode .rd),
      ([6, 0x0C, 0], .csrNPreamble .rd), ([6, 0x0D, 0], .csrSearchWin .rd), ([6, 0x0E, 0], .csrCfoMax .rd), ([6, 0x0F, 0], .csrFrameLimit .rd),
      ([6, 0x10, 0], .csrAttemptLimit .rd), ([6, 0x11, 0], .csrSyncCfoInt .rd), ([6, 0x12, 0], .csrSyncCfoFrac .rd), ([6, 0x13, 0], .csrSyncSto .rd),
      ([6, 0x14, 0], .csrSyncSnrDb .rd), ([6, 0x15, 0], .csrHdrStartLo .rd), ([6, 0x16, 0], .csrHdrStartHi .rd), ([6, 0x17, 0], .csrHdr .rd),
      ([6, 0x18, 0], .csrPosLo .rd), ([6, 0x19, 0], .csrPosHi .rd), ([6, 0x1A, 0], .csrAvailLo .rd), ([6, 0x1B, 0], .csrAvailHi .rd),
      ([6, 0x1C, 0], .csrFrameCount .rd), ([6, 0x1D, 0], .csrNotfoundCount .rd), ([6, 0x1E, 0], .csrAbortCount .rd), ([6, 0x1F, 0], .csrFrameLevel .rd),
      ([6, 0x20, 0], .csrUnmapped 0x20 .rd), ([6, 0xFF, 1, 1, 0, 0, 0], .csrUnmapped 0xFF (.wr 1))],
      decode x.1 = .ok x.2 := by decide
/-- Phase codes (R97), and the rows without a code. -/
theorem test_decode_phase :
    ∀ x ∈ [([7, 0], Instr.idle), ([7, 1], .preambleSearch), ([7, 2], .syncMatch), ([7, 3], .demodSymbolHdr),
      ([7, 4], .headerDecode), ([7, 5], .demodSymbolPay), ([7, 6], .payloadBlockDecode), ([7, 7], .dewhiten),
      ([7, 8], .crcCheck), ([7, 9], .emitFrame), ([7, 10], .done), ([8], .injectSearch),
      ([9], .coreStep), ([10], .eosAction)],
      decode x.1 = .ok x.2 := by decide
/-- Function keys 0 to 0x1A (opcode table, R99). -/
theorem test_decode_fn_low :
    ∀ x ∈ [([11, 0x00], Instr.chirpUp), ([11, 0x01], .chirpDown), ([11, 0x02], .chirpRefOs), ([11, 0x03], .f32ToNum),
      ([11, 0x04], .circdist), ([11, 0x05], .argmaxPeak), ([11, 0x06], .stable), ([11, 0x07], .fracCfo),
      ([11, 0x08], .snrEst), ([11, 0x09], .coarseAlign), ([11, 0x0A], .fineTiming), ([11, 0x0B], .syncSymbols),
      ([11, 0x0C], .findDownchirp), ([11, 0x0D], .syncWordMatch), ([11, 0x0E], .cfoInt), ([11, 0x0F], .cfoRangeCheck),
      ([11, 0x10], .hdrStartSto), ([11, 0x11], .syncFail), ([11, 0x12], .dechirpFft), ([11, 0x13], .decimate),
      ([11, 0x14], .dft), ([11, 0x15], .cfoFracCorrect), ([11, 0x16], .cfoIntCorrect), ([11, 0x17], .peak),
      ([11, 0x18], .bin2sym), ([11, 0x19], .grayEnc), ([11, 0x1A], .grayDec)],
      decode x.1 = .ok x.2 := by decide
/-- Function keys 0x1B to 0x34 (opcode table, R99). -/
theorem test_decode_fn_high :
    ∀ x ∈ [([11, 0x1B], Instr.symReduce), ([11, 0x1C], .symval), ([11, 0x1D], .diagnostics), ([11, 0x1E], .interBin),
      ([11, 0x1F], .deinterleave), ([11, 0x20], .rowToCodeword), ([11, 0x21], .interleave), ([11, 0x22], .hamEnc),
      ([11, 0x23], .hamDec), ([11, 0x24], .nib2byte), ([11, 0x25], .hdrParse), ([11, 0x26], .hdrChk),
      ([11, 0x27], .nsym), ([11, 0x28], .pn9Step), ([11, 0x29], .pn9Byte), ([11, 0x2A], .crc16),
      ([11, 0x2B], .loraCrc), ([11, 0x2C], .crcRx), ([11, 0x2D], .configValid), ([11, 0x2E], .ldroAuto),
      ([11, 0x2F], .lock), ([11, 0x30], .payloadSetup), ([11, 0x31], .headerAbort), ([11, 0x32], .nextSearch),
      ([11, 0x33], .raise), ([11, 0x34], .frameWords)],
      decode x.1 = .ok x.2 := by decide
/-- The Hamming decoders by `cr` (43 R171). -/
theorem test_decode_ham :
    ∀ x ∈ [([12, 1], Instr.hamDec5), ([12, 2], .hamDec6), ([12, 3], .hamDec7), ([12, 4], .hamDec8)],
      decode x.1 = .ok x.2 := by decide
/-- Codes the table has no row for, and packets of no form. -/
theorem test_decode_refusals :
    decode [7, 11] = .noRow 7 11 ∧ decode [11, 0x35] = .noRow 11 0x35 ∧ decode [12, 5] = .noRow 12 5 ∧
    decode [] = .malformed ∧ decode [1] = .malformed ∧ decode [13] = .malformed ∧ decode [6, 4, 2] = .malformed := by decide

/-- Bare table words (log 2). -/
theorem test_table_words :
    decodeTableWord 32 0x1 = some (.start 0) ∧ decodeTableWord 8 0x08 = some (.csrSyncWord .rd) ∧
    decodeTableWord 8 0x2A = some .crc16 ∧ decodeTableWord 4 9 = some .emitFrame ∧ decodeTableWord 3 4 = some .hamDec8 := by decide

/-! ### States for the tests -/

/-- `sf = 7`, `bw = fs = 125000`, `cr = 1`, INJECT mode: the configuration of 95_test_vectors program P1. -/
def csrP1 : Csr := { Csr.reset with sf := 7, bw := 125000, fs := 125000, cr := 1, mode := 8 }

/-- Before START. -/
def sIdle : State := { State.reset with csr := csrP1, inst := ⟨2, some 4⟩ }

/-- After an accepted START. -/
def sRun : State := startRun sIdle

/-- One injected bin is there. -/
def sFed : State := appendSample ⟨33, 0⟩ sRun

/-- Locked on it. -/
def sDemod : State := lockOn 0 0 0 (.fin 0) 0 sFed

/-- The state before HEADER_DECODE of the bins `l`. -/
def sHeader (l : List Nat) : State :=
  { sDemod with
    symbuf := l, diag := l.map (fun k => ⟨k, .fin 0, 0⟩), sympos := 8, avail := 8
    store := l.map (fun k => ⟨(k : Rat), 0⟩), phase := .hdrDecode }

/-- The header block of program P1 (44 R186): length 2, coding rate 2, CRC. -/
def sGoodHeader : State := sHeader [33, 8, 8, 1, 97, 17, 24, 16]

/-- A frame of an empty payload without CRC, ready to be emitted. -/
def sEmit : State :=
  { sGoodHeader with hdrf := ⟨0, 1, false, true, true⟩, symbuf := [], blklen := 5, crcOk := true, phase := .emit }

/-- A payload of two bytes with its CRC, before CRC_CHECK (47 R208). -/
def sCrc (b1 : Byte) : State :=
  { sGoodHeader with hdrf := ⟨2, 2, true, true, true⟩, bytes := [0x68, b1, 0x69, 0x68], need := 8, phase := .crc }

/-! ### One step on small states -/

/-- 42 R152: "In INJECT mode `p2s_db = 0` and `energy = 0`", whatever the powers. -/
theorem test_diagnostics_inject :
    ∃ t, exec .diagnostics { sDemod with call := { sDemod.call with n0 := 5, reals := [1, 2] } } = .next t ∧
      t.ret = .diag ⟨5, .fin 0, 0⟩ := ⟨_, rfl, rfl⟩

/-- 42 R142: "For `os = 1` the two are the same": SUM gives the entry itself. -/
theorem test_decimate_one_sample : decimate machineArith false 2 1 [⟨1, 2⟩, ⟨3, 4⟩] = [⟨1, 2⟩, ⟨3, 4⟩] := rfl

/-- 95_test_vectors H3: START on the reset configuration. -/
theorem test_start_refused_at_reset :
    ∃ t, exec (.start 0) State.reset = .next t ∧ t.err = 0x80 ∧ t.lastErr = 7 ∧ t.phase = .idle := ⟨_, rfl, by decide⟩

/-- 95_test_vectors H14: STATUS after START in INJECT mode: SEARCH, RUNNING, WAIT_INPUT, CFG_OK. -/
theorem test_status_after_start : ∃ t, exec (.csrR 1) sRun = .next t ∧ t.rdata = 0x451 := ⟨_, rfl, by decide⟩

/-- 95_test_vectors H10: reserved bits of SF are dropped. -/
theorem test_sf_drops_reserved_bits : ∃ t, exec (.csrW 4 0xFFFFFFF7) sIdle = .next t ∧ csrView 4 t = 7 := ⟨_, rfl, by decide⟩

/-- 95_test_vectors H15: an RW write is refused while running. -/
theorem test_sf_write_refused_running :
    ∃ t, exec (.csrW 4 8) sRun = .next t ∧ t.err = 0x800 ∧ t.csr.sf = 7 := ⟨_, rfl, by decide⟩

/-- 95_test_vectors H18: bits 63:16 of an injected beat are ignored, and the bin is reduced modulo N. -/
theorem test_pushsym_reduces : ∃ t, exec (.pushsym 0x10085) sRun = .next t ∧ t.store = [⟨5, 0⟩] ∧ t.avail = 1 :=
  ⟨_, rfl, by decide⟩

/-- 20_memory R65: a full store leaves the beat with the host. -/
theorem test_step_waits_for_room :
    step { sRun with avail := 4, store := List.replicate 4 ⟨1, 0⟩, inbox := [encode (.pushsym 7)] }
      = exec .coreStep { sRun with avail := 4, store := List.replicate 4 ⟨1, 0⟩, inbox := [encode (.pushsym 7)] } := by rfl

/-- A float beat with a NaN component (95_test_vectors 2.1). -/
theorem test_push_nan : ∃ t, exec (.push 0x3F8000007FC00000) { sRun with cfg := { sRun.cfg with inject := false } } = .next t ∧
    t.store = [⟨0, 1⟩] ∧ t.lastErr = 10 := ⟨_, rfl, by decide⟩

/-- 48 R240: the injected search locks at `P`. -/
theorem test_inject_search_locks :
    ∃ t, exec .coreStep sFed = .next t ∧ t.phase = .hdrDemod ∧ t.sync.locked = true ∧ t.blklen = 8 := ⟨_, rfl, by decide⟩

/-- 42 R150: one bin is appended. -/
theorem test_demod_appends : ∃ t, exec .demodSymbolHdr sDemod = .next t ∧ t.symbuf = [33] ∧ t.sympos = 1 ∧ t.phase = .hdrDemod :=
  ⟨_, rfl, by decide⟩

/-- 44 R186's worked example. -/
theorem test_header_decode_example : ∃ t, exec .headerDecode sGoodHeader = .next t ∧ t.hdrf = ⟨2, 2, true, true, true⟩ ∧
    t.need = 8 ∧ t.blklen = 6 ∧ t.phase = .payDemod := ⟨_, rfl, by decide⟩

/-- 44 R185: an uncorrectable row comes first. -/
theorem test_header_uncorrectable : ∃ t, exec .headerDecode (sHeader [49, 32, 1, 0, 32, 33, 16, 9]) = .next t ∧
    t.err = 0x10 ∧ t.p = 8 ∧ t.abortCount = 1 ∧ t.phase = .search := ⟨_, rfl, by decide⟩

/-- The state of 45 R193's worked example, before the last payload block. -/
def sBlock (syms : List Nat) : State :=
  { sGoodHeader with hdrf := ⟨2, 2, true, true, true⟩, need := 8, nib := [9, 7, 14, 14, 6, 9, 6], symbuf := syms }

/-- 45 R193's worked example, second block: row 0 decodes to 8, the others are not decoded. -/
theorem test_payload_block_example :
    ∃ t, exec .payloadBlockDecode (sBlock [1, 1, 1, 32, 1, 8]) = .next t ∧
      t.nib = [9, 7, 14, 14, 6, 9, 6, 8] ∧ t.phase = .dewhiten := ⟨_, rfl, by decide⟩

/-- 46 R203's worked example. -/
theorem test_dewhiten_example :
    ∃ t, exec .dewhiten { sGoodHeader with hdrf := ⟨2, 2, true, true, true⟩, need := 8, nib := [9, 7, 14, 14, 6, 9, 6, 8] } = .next t ∧
      t.bytes = [0x68, 0x69, 0x69, 0x68] ∧ t.phase = .crc := ⟨_, rfl, by decide⟩

/-- 47 R208's worked examples. -/
theorem test_crc_check_examples :
    (∃ t, exec .crcCheck (sCrc 0x69) = .next t ∧ t.crcOk = true ∧ t.crcCalc = 0x6869) ∧
    (∃ t, exec .crcCheck (sCrc 0x6B) = .next t ∧ t.crcOk = false ∧ t.crcCalc = 0x686B ∧ t.err = 0x20) :=
  ⟨⟨_, rfl, by decide⟩, ⟨_, rfl, by decide⟩⟩

/-- 48 R233: the record is pushed and the search goes on behind the frame. -/
theorem test_emit_pushes : ∃ t, exec .emitFrame sEmit = .next t ∧ t.fifo.length = 1 ∧ t.p = 8 ∧ t.frameCount = 1 ∧
    t.sync.locked = false ∧ t.phase = .search := ⟨_, rfl, by decide⟩

/-- 43 R163's and R164's worked examples. -/
theorem test_interleaver_examples :
    deinterleave 5 [1, 2, 3, 4, 5, 6, 7, 8] = [145, 14, 102, 34, 8] ∧
    interleave 8 [0x8B, 0x4E, 0xC5, 0x2D, 0xA6] = [21, 3, 6, 0, 22, 30, 25, 11] := by decide

/-- 43 R167's and R168's examples. -/
theorem test_hamming_examples :
    hamDec8 0xD3 = (11, .corrected) ∧ hamDec8 0xD1 = (11, .uncorrectable) ∧ hamDec7 0x6A = (3, .corrected) := by decide

/-- 44 R184's examples. -/
theorem test_header_checksum_examples : hdrChk 0 2 5 = 1 ∧ hdrChk 15 15 9 = 8 ∧ hdrChk 6 4 8 = 9 := by decide

/-- Binary32 words of stored reals (95_test_vectors 2.1): 1, -1/2, and a tie to even. -/
theorem test_real_to_binary32 : toF32 1 = 0x3F800000 ∧ toF32 (mkRat (-1) 2) = 0xBF000000 ∧ toF32 16777217 = 0x4B800000 := by decide

/-! ### Witnesses of the statements' hypotheses -/

theorem witness_DecodeInvertsEncode : (Instr.csrUnmapped 0x20 (.wr 1)).wellFormed = true := by decide

theorem witness_EncodeInvertsDecode : decode [6, 0x20, 1, 1, 0, 0, 0] = .ok (.csrUnmapped 0x20 (.wr 1)) := by decide

/-- Both branches: a beat that waits, a beat that does not; and an empty list. -/
theorem witness_StepRunsDecodedInstruction :
    sRun.inbox = [] ∧
    (∃ s : State, s.inbox = [encode (.pushsym 7)] ∧ decode (encode (.pushsym 7)) = .ok (.pushsym 7) ∧
      (Instr.pushsym 7).wellFormed = true ∧ running s = true ∧ s.eos = false ∧ storeFull s = true) ∧
    (∃ s : State, s.inbox = [encode .outPop] ∧ decode (encode .outPop) = .ok .outPop ∧ Instr.outPop.wellFormed = true) :=
  ⟨rfl, ⟨{ sRun with avail := 4, inbox := [encode (.pushsym 7)] }, by decide⟩, ⟨{ sRun with inbox := [encode .outPop] }, by decide⟩⟩

/-- The invariant of a state without pending packets, from the invariant of the CORE. -/
theorem inv_of_empty_inbox {s : State} (h : CoreInv s) (hi : s.inbox = []) : Inv s :=
  { agents := fun p hp => by rw [hi] at hp; cases hp
    core := h }

theorem coreInv_sRun : CoreInv sRun := by
  constructor
  case cfg => exact fun _ => ⟨csrP1, by decide, rfl⟩
  case frames => intro f hf; cases hf
  case phase => trivial
  all_goals decide

theorem coreInv_sDemod : CoreInv sDemod := by
  constructor
  case cfg => exact fun _ => ⟨csrP1, by decide, rfl⟩
  case frames => intro f hf; cases hf
  case phase => exact ⟨by decide, by decide, by decide, by decide⟩
  all_goals decide

theorem coreInv_sGoodHeader : CoreInv sGoodHeader := by
  constructor
  case cfg => exact fun _ => ⟨csrP1, by decide, rfl⟩
  case frames => intro f hf; cases hf
  case phase => exact ⟨by decide, by decide, by decide, by decide, by decide⟩
  all_goals decide

theorem coreInv_sEmit : CoreInv sEmit := by
  constructor
  case cfg => exact fun _ => ⟨csrP1, by decide, rfl⟩
  case frames => intro f hf; cases hf
  case phase => exact ⟨⟨by decide, by decide, by decide⟩, by decide, by unfold AllSymbolsDone; decide, by decide, by decide, by decide⟩
  all_goals decide

theorem witness_StepKeepsInv : Inv sDemod ∧ ∃ t, step sDemod = .next t := ⟨inv_of_empty_inbox coreInv_sDemod rfl, _, rfl⟩

theorem witness_RaiseRecordsOnly : State.reset.call.err = .syncNotFound := rfl

theorem witness_NopAndReservedCommands : Instr.cmdReserved14 5 ∈ [Instr.cmdReserved4 5, .cmdReserved14 5] := by decide

theorem witness_StartFreezesAndClears :
    running sRun = true ∧ (running State.reset = false ∧ configOk State.reset.csr = false) ∧
    (running sIdle = false ∧ configOk sIdle.csr = true) := by decide

theorem witness_EosDeclaresEndOfStream : running sRun = true ∧ running sIdle = false := by decide

theorem witness_PopDeliversOldestFrame : sRun.fifo = [] ∧ { sRun with fifo := [Frame.zero] }.fifo = Frame.zero :: [] := ⟨rfl, rfl⟩

theorem witness_BeatIsRefusedHeldOrStored :
    running sIdle = false ∧ { sRun with eos := true }.eos = true ∧ (running sRun = true ∧ sRun.eos = false) ∧
    (sRun.inst.storeDepth = some 4 ∧ 4 ≤ { sRun with avail := 4 }.avail - min (retire sRun) 4) ∧
    ({ sRun with avail := 3 }.avail - min (retire sRun) 3 < 4) ∧ sRun.cfg.inject = true ∧
    { sRun.cfg with inject := false }.inject = false ∧ f32 (BitVec.extractLsb' 0 32 (0x3F8000007FC00000 : Beat)) = (0, true) := by
  decide

theorem witness_BeatWritesOneStoreEntry :
    Memory.wf sRun = true ∧ running sRun = true ∧ sRun.eos = false ∧ storeFull sRun = false ∧ retire sRun ≤ sRun.avail := by decide

/-- One word for each clause: infinity, the smallest subnormal, the smallest and the largest normal exponents. -/
theorem witness_FloatWordsAreExact :
    (0x7F800000#32).toNat / 2 ^ 23 % 256 = 255 ∧ (0x00000001#32).toNat / 2 ^ 23 % 256 = 0 ∧
    (0x80800000#32).toNat / 2 ^ 23 % 256 = 1 ∧ (0x7F7FFFFF#32).toNat / 2 ^ 23 % 256 = 254 := by decide

theorem witness_CsrReadsReturnViews : (Instr.csrUnmapped 0x20 .rd).wellFormed = true := by decide

theorem witness_CsrWritesSetOrAreRefused :
    running sIdle = false ∧ running sRun = true ∧ (Instr.csrUnmapped 0x20 (.wr 0)).wellFormed = true := by decide

theorem witness_RwRegisterReadsBack : running sIdle = false := by decide

theorem witness_StatusBits : sDemod.phase = .hdrDemod ∧ sRun.phase = .search ∧ sRun.cfg.inject = true := by decide

theorem witness_CoreStepRunsOperationOfPhase :
    sIdle.phase = .idle ∧ (sRun.phase = .search ∧ sRun.cfg.inject = true) ∧ sGoodHeader.phase = .hdrDecode ∧
    ({ sRun with cfg := { sRun.cfg with inject := false } }.phase = .search ∧
      { sRun with cfg := { sRun.cfg with inject := false } }.cfg.inject = false) := by decide

theorem witness_StarvedHoldsOrEnds :
    (starved sRun = true ∧ sRun.eos = false) ∧ (starved { sRun with eos := true } = true ∧ { sRun with eos := true }.eos = true) ∧
    sRun.phase = .search ∧ sDemod.phase = .hdrDemod := by decide

theorem witness_PushCommutesWithCoreStep :
    Memory.wf sDemod = true ∧ starved sDemod = false ∧ ∃ t, exec .coreStep sDemod = .next t := ⟨by decide, by decide, _, rfl⟩

theorem witness_LockWritesSyncAndStartsFrame :
    sFed.cfg.implicit = false ∧ sFed.p < sFed.avail ∧ (sRun.avail ≤ sRun.p ∧ sRun.eos = false) ∧
    (∃ s : State, s.cfg.implicit = true ∧ s.cfg.payloadLength = (3 : BitVec 8).toNat ∧ s.cfg.cr = (1 : BitVec 3).toNat) ∧
    { sRun with eos := true }.eos = true :=
  ⟨by decide, by decide, by decide, ⟨{ sRun with cfg := { sRun.cfg with implicit := true, payloadLength := 3 } }, by decide⟩, rfl⟩

theorem witness_PayloadSetupSizesThePayload :
    8 = 2 * ((⟨2, 2, true, true, true⟩ : Hdrf).payloadLength.toNat + if (⟨2, 2, true, true, true⟩ : Hdrf).hasCrc then 2 else 0) := by
  decide

/-- At the limit the phase is DONE, without a limit SEARCH. -/
theorem witness_FailedAttemptsResumeSearch :
    nextPhase { sRun with frameCount := 1, cfg := { sRun.cfg with frameLimit := 1 } } = .done ∧ nextPhase sRun = .search := by decide

theorem witness_PhasesFollowTheGraph :
    (∃ t, exec .coreStep sFed = .next t) ∧ (Instr.start 0).isAgentMove = true ∧ Instr.start 0 ≠ .coreStep ∧
    (∃ t, exec (.start 0) sIdle = .next t) := ⟨⟨_, rfl⟩, rfl, by decide, ⟨_, rfl⟩⟩

theorem witness_SyncImmutableWhileLocked : CoreInv sDemod ∧ Instr.coreStep.isAgentMove = true ∧ sDemod.sync.locked = true ∧
    ∃ t, exec .coreStep sDemod = .next t ∧ t.sync.locked = true := ⟨coreInv_sDemod, rfl, by decide, _, rfl, by decide⟩

theorem witness_EveryAttemptAdvances : CoreInv sEmit ∧ (∃ t, exec .coreStep sEmit = .next t ∧
      t.frameCount + t.notfoundCount + t.abortCount ≠ sEmit.frameCount + sEmit.notfoundCount + sEmit.abortCount) ∧
    (Instr.nop 0).isAgentMove = true ∧ Instr.nop 0 ≠ .coreStep := ⟨coreInv_sEmit, ⟨_, rfl, by decide⟩, rfl, by decide⟩

theorem witness_RunEndsAfterEos : CoreInv { sDemod with eos := true } ∧ { sDemod with eos := true }.eos = true :=
  ⟨{ coreInv_sDemod with }, rfl⟩

/-- Search states: no sample yet, so the first candidate is starved; a run of no windows, which is
found at once; and four bins with forty samples, enough for every window of an attempt. -/
def sSearch : State := { sRun with cfg := { sRun.cfg with inject := false } }

def sNoRun : State := { sSearch with cfg := { sSearch.cfg with bins := 4, ns := 4, wlen := 4, s0 := 0, s1 := 0, nPre := 1 } }

def sFour : State :=
  { sNoRun with
    cfg := { sNoRun.cfg with nPre := 4 }
    avail := 40, store := List.replicate 40 ⟨1, 0⟩, phase := .sync }

theorem witness_PreambleSearchTakesFirstCandidate :
    -- starved at the first candidate; found at the first candidate while no sample is there for the rest; no candidate at all
    (25 + sSearch.cfg.nPre = sSearch.cfg.searchWin + 1 ∧
      examine machineArith sSearch.cfg (window sSearch sSearch.cfg.ns) (sSearch.p + 0 * sSearch.cfg.ns) = none) ∧
    (32 + sNoRun.cfg.nPre = sNoRun.cfg.searchWin + 1 ∧ ∃ x,
      examine machineArith sNoRun.cfg (window sNoRun sNoRun.cfg.ns) (sNoRun.p + 0 * sNoRun.cfg.ns) = some (some x)) ∧
    (∃ s : State, 0 + s.cfg.nPre = s.cfg.searchWin + 1) ∧
    -- the run of a candidate: not readable, readable
    (3 + 1 = sFour.cfg.nPre ∧ (∃ w, w < 3 ∧ sFour.avail < 29 + w * sFour.cfg.ns + sFour.cfg.ns) ∧
      ∀ w, w < 3 → 28 + w * sFour.cfg.ns + sFour.cfg.ns ≤ sFour.avail) :=
  ⟨⟨by decide, rfl⟩, ⟨by decide, _, rfl⟩, ⟨{ sSearch with cfg := { sSearch.cfg with nPre := 33 } }, by decide⟩,
    by decide, by decide, by decide⟩

/-- The premises of SYNC_MATCH that are not definitions: with every window there, and (at the same windows) with none. -/
theorem witness_SyncMatchTestsInOrder :
    ∃ a : Nat → Int, 2 ≤ sFour.cfg.nPre ∧ 0 ≤ a 0 ∧
      (∀ i, a i = sFour.cand.q2 + ((sFour.cfg.nPre - 2 + i) * sFour.cfg.ns : Nat)) ∧
      (∀ i, i < 4 → a i + 2 * sFour.cfg.ns ≤ sFour.avail) ∧ a 3 + sFour.cfg.ns ≤ sFour.avail ∧
      (∀ i, i < 4 → (({ sFour with avail := 0 }).avail : Int) < a i + 2 * sFour.cfg.ns) ∧
      ∀ v i, 0 ≤ a i + -((sgnN sFour.cfg.bins v + 1) / 2) * sFour.cfg.os + 2 * sFour.cfg.ns + (sFour.cfg.ns / 4 : Nat) := by
  refine ⟨fun i => sFour.cand.q2 + ((sFour.cfg.nPre - 2 + i) * sFour.cfg.ns : Nat), by decide, by decide, fun _ => rfl, by decide,
    by decide, by decide, fun v i => ?_⟩
  show (0 : Int) ≤ 0 + (((4 - 2 + i) * 4 : Nat) : Int) + -((sgnN 4 v + 1) / 2) * ((1 : Nat) : Int) + 2 * ((4 : Nat) : Int)
    + ((4 / 4 : Nat) : Int)
  simp only [sgnN]
  split <;> push_cast <;> omega

theorem witness_AttemptReadsBoundedSpan : configOk csrP1 = true := by decide

theorem witness_DemodSymbolAppendsOneBin :
    (sRun.avail < sRun.sympos + sRun.cfg.wlen ∧ sRun.eos = false) ∧ { sRun with eos := true }.eos = true ∧
    (sDemod.sympos + sDemod.cfg.wlen ≤ sDemod.avail ∧ sDemod.cfg.inject = true ∧ sDemod.cfg.wlen = 1) ∧
    (∃ s : State, s.sympos + s.cfg.wlen ≤ s.avail ∧ s.cfg.inject = false) :=
  ⟨by decide, rfl, by decide, ⟨sFour, by decide⟩⟩

/-- The four outcomes of HEADER_DECODE on 8 bins each: uncorrectable, wrong checksum, coding rate 5, valid. -/
theorem witness_HeaderDecodeTestsInOrder :
    7 ≤ sGoodHeader.cfg.sf ∧
    (hamDec8 ((deinterleave 5 ([49, 32, 1, 0, 32, 33, 16, 9].map (symval 128 7 5))).getD 1 0)).2 = .uncorrectable ∧
    ((deinterleave 5 ([32, 25, 8, 1, 97, 48, 24, 1].map (symval 128 7 5))).take 4).map hamDec8
      = [(0, .ok), (2, .ok), (5, .ok), (2, .ok)] ∧ hdrChk 0 2 5 ≠ 2 ∧
    ((deinterleave 5 ([32, 9, 1, 0, 32, 16, 9, 1].map (symval 128 7 5))).take 4).map hamDec8
      = [(0, .ok), (2, .ok), (11, .ok), (0, .ok)] ∧ hdrChk 0 2 11 = 0 ∧ (11 : Nib).extractLsb' 1 3 = (5 : BitVec 3) ∧
    ((deinterleave 5 ([33, 8, 8, 1, 97, 17, 24, 16].map (symval 128 7 5))).take 4).map hamDec8
      = [(0, .ok), (2, .ok), (5, .ok), (1, .ok)] ∧ hdrChk 0 2 5 = 1 := by decide

/-- The header of program P1 with its symbol 3 wrong. -/
theorem witness_HeaderSurvivesOneWrongSymbol :
    ∃ s : State, CoreInv s ∧ s.phase = .hdrDecode ∧
      [0x00, 0x4E, 0xA6, 0x8B, 0x00].length = s.cfg.sf - 2 ∧ (∀ r ∈ [0x00, 0x4E, 0xA6, 0x8B, 0x00], r < 256) ∧
      [0x00, 0x4E, 0xA6, 0x8B, 0x00].take 4 = [hamEnc 4 0, hamEnc 4 2, hamEnc 4 5, hamEnc 4 (hdrChk 0 2 5)] ∧
      (∀ i, i < 8 → i ≠ 3 → symval s.cfg.bins s.cfg.sf (s.cfg.sf - 2) (s.symbuf.getD i 0)
        = (interleave 8 [0x00, 0x4E, 0xA6, 0x8B, 0x00]).getD i 0) := by
  refine ⟨sHeader [33, 8, 8, 77, 97, 17, 24, 16], ?_, by decide, by decide, by decide, by decide, by decide⟩
  constructor
  case cfg => exact fun _ => ⟨csrP1, by decide, rfl⟩
  case frames => intro f hf; cases hf
  case phase => exact ⟨by decide, by decide, by decide, by decide, by decide⟩
  all_goals decide

theorem witness_PayloadBlockAppendsNibbles :
    ∃ s : State, s.nib.length ≤ s.need ∧ s.symbuf.length = s.hdrf.codingRate.toNat + 4 :=
  ⟨{ sGoodHeader with hdrf := ⟨2, 2, true, true, true⟩, need := 8, symbuf := [62, 54, 102, 103, 20, 39] }, by decide⟩

theorem witness_DewhitenXorsPayloadBytes :
    ∃ s : State, s.nib.length = s.need ∧ s.hdrf.payloadLength.toNat ≤ s.need / 2 ∧ 0 < s.need :=
  ⟨{ sGoodHeader with hdrf := ⟨2, 2, true, true, true⟩, need := 8, nib := [9, 7, 14, 14, 6, 9, 6, 8] }, by decide⟩

theorem witness_CrcCheckComparesAndGoesOn :
    sEmit.hdrf.hasCrc = false ∧ (sCrc 0x69).hdrf.hasCrc = true ∧
    (sCrc 0x69).bytes.length = (sCrc 0x69).hdrf.payloadLength.toNat + 2 := by decide

theorem witness_CrcAcceptsOwnAndDetectsOneByte :
    (sCrc 0x69).hdrf.hasCrc = true ∧ (sCrc 0x69).hdrf.payloadLength.toNat = [(0x68 : Byte), 0x69].length ∧
    loraCrc [0x68, 0x69] = (0x68 : Byte) ++ (0x69 : Byte) ∧ (sCrc 0x69).bytes = [0x68, 0x69] ++ [0x69, 0x68] ∧
    (sCrc 0x6B).bytes = [(0x68 : Byte), 0x69].set 1 ([(0x68 : Byte), 0x69].getD 1 0 ^^^ 2) ++ [0x69, 0x68] := by decide

theorem witness_CrcRows : (sCrc 0x69).hdrf.payloadLength.toNat + 2 ≤ (sCrc 0x69).bytes.length := by decide

theorem witness_EmitPushesTheFrame :
    { sEmit with fifo := [Frame.zero, Frame.zero] }.inst.fifoDepth ≤ { sEmit with fifo := [Frame.zero, Frame.zero] }.fifo.length ∧
    sEmit.fifo.length < sEmit.inst.fifoDepth ∧ CoreInv sEmit ∧ sEmit.phase = .emit ∧
    8 = (if sEmit.cfg.implicit then 0 else 8) + (sEmit.need + sEmit.cfg.sfAppPay - 1) / sEmit.cfg.sfAppPay
      * (sEmit.hdrf.codingRate.toNat + 4) := ⟨by decide, by decide, coreInv_sEmit, by decide, by decide⟩

theorem witness_StoreAndConfigurationWriters : ∃ t, exec (.pushsym 5) sRun = .next t := ⟨_, rfl⟩

theorem witness_FifoKeepsOrder : ∃ t, exec .emitFrame sEmit = .next t := ⟨_, rfl⟩

theorem witness_ErrorBitsAreSticky : { sRun with err := 0x800 }.err.getLsbD 11 = true ∧
    ∃ t, exec .coreStep { sRun with err := 0x800 } = .next t := ⟨by decide, _, rfl⟩

/-- The range of the Gray map's argument, at its upper end. -/
theorem witness_SymbolMapRowsAndGrayInverse : 4095 < 2 ^ 12 := by decide

theorem witness_DeinterleaveFollowsTheDiagonal :
    { State.reset.call with nats := [1, 0, 1, 1, 0, 0, 1, 0], n0 := 1 }.nats = [1, 0, 1, 1, 0, 0, 1, 0] := rfl

theorem witness_InterleaverIsExactInverse :
    1 ≤ [0x8B, 0x4E, 0xC5, 0x2D, 0xA6].length ∧ (∀ c ∈ [0x8B, 0x4E, 0xC5, 0x2D, 0xA6], c < 2 ^ 8) ∧
    (∀ x ∈ [1, 0, 1, 1, 0, 0, 1, 0], x < 2 ^ 1) := by decide

theorem witness_HammingRowsEncodeAndDecode :
    { State.reset.call with n0 := 0xD2 ^^^ (1 <<< 7), n1 := 4 }.n0 = 0xD2 ^^^ (1 <<< 7) ∧
    0xD1 = hamEnc 4 11 ^^^ (1 <<< 0) ^^^ (1 <<< 1) := by decide

theorem witness_HeaderAndLengthRows : 1 ≤ sRun.cfg.sfAppPay ∧ [9, 7] = [(9 : Nib), 7].map (·.toNat) := by decide

theorem witness_ConfigurationRowsAndDerivedParameters :
    configOk csrP1 = true ∧ csrP1.syncWord.getLsbD 16 = false ∧
    configOk { csrP1 with syncWord := 0x13412 } = true ∧ (0x13412 : BitVec 17).getLsbD 16 = true := by decide

/-- A record at the ends of the ranges of W0 and W1. -/
theorem witness_FrameWordsLayout :
    (List.replicate 257 (0 : Byte)).length ≤ 257 ∧ { Frame.zero with hamUnc := 514 }.hamUnc ≤ 514 ∧
    { Frame.zero with diag := [⟨5, .fin 0, 0⟩] }.diag[0]? = some ⟨5, .fin 0, 0⟩ :=
  ⟨Nat.le_of_eq List.length_replicate, by decide, rfl⟩

theorem witness_PeakIsLowestArgmax : { State.reset.call with reals := [1, 3, 3] }.reals = [1, 3, 3] ∧ [(1 : Rat), 3, 3] ≠ [] := by
  decide

theorem witness_BinRowsAndRanges :
    (1317 : Int) = 1026 + 3 * (1 : Nat) + 2 * (128 : Nat) + ((128 / 4 : Nat) : Int) ∧ 0 < 128 ∧ 128 % 4 = 0 := by decide

/-- One sample a chip, and two. -/
theorem witness_ExactDemodulatorReturnsTheBin :
    (7 ≤ sRun.cfg.sf ∧ sRun.cfg.sf ≤ 12 ∧ sRun.cfg.bins = 2 ^ sRun.cfg.sf ∧ 1 ≤ sRun.cfg.os ∧
      sRun.cfg.ns = sRun.cfg.os * sRun.cfg.bins ∧ 127 < sRun.cfg.bins ∧ sRun.cfg.os ≤ 2) ∧
    ∃ cfg : Cfg, cfg = freeze { csrP1 with fs := 250000 } ∧ cfg.os = 2 ∧ cfg.bins = 2 ^ cfg.sf ∧ cfg.ns = cfg.os * cfg.bins ∧
      127 < cfg.bins ∧ cfg.decimSub = false := by
  refine ⟨by decide, _, rfl, ?_⟩
  decide

/-- FRAC_CFO of no lag (`D = 0`) and of one; a median that is 0 and one that is not. -/
theorem witness_EstimatorRows :
    [([] : List Cx)].length < 2 ∧ ¬ [[(⟨1, 0⟩ : Cx)], [⟨0, 1⟩]].length < 2 ∧
    ([(0 : Rat), 0, 5].Pairwise (· ≤ ·) ∧ [(0 : Rat), 0, 5].getD ((4 - 2) / 2) 0 = 0) ∧
    [(1 : Rat), 2, 5].Pairwise (· ≤ ·) ∧ [(1 : Rat), 2, 5].getD ((4 - 2) / 2) 0 ≠ 0 := by decide

/-- Four bins with the operands at `n0 = n1 = 0`: every window is below AVAIL; FINE_TIMING at the last readable index (32) and at the
first starved one; the three cases of `p2s_db`; the window of FIND_DOWNCHIRP, whichever is the first. -/
theorem witness_CorrelatorRows :
    sFour.cfg.decimSub = false ∧ sFour.cfg.ns = sFour.cfg.os * sFour.cfg.bins ∧ sFour.cfg.os = 1 ∧ sFour.cfg.inject = false ∧
    sDemod.cfg.inject = true ∧ { sFour.cfg with decimSub := true }.decimSub = true ∧
    sFour.call.n0 + sFour.cfg.ns ≤ sFour.avail ∧ sFour.call.n1 + sFour.cfg.ns ≤ sFour.avail ∧
    32 + sFour.cfg.os / 2 + (sFour.cfg.nPre - 2) * sFour.cfg.ns ≤ sFour.avail ∧
    (4 ≤ sFour.cfg.nPre ∧ sFour.avail < 33 + sFour.cfg.os / 2 + (sFour.cfg.nPre - 2) * sFour.cfg.ns) ∧
    realAt machineArith [0, 1, 0, 0] 0 = 0 ∧
    (realAt machineArith [1, 0, 0, 0] 0 ≠ 0 ∧ othersOf machineArith 4 [1, 0, 0, 0] 0 = [0, 0, 0] ∧ ∀ v ∈ [(0 : Rat), 0, 0], v ≤ 0) ∧
    (othersOf machineArith 4 [4, 2, 1, 0] 0 = [2, 1, 0] ∧ (∀ v ∈ [(2 : Rat), 1, 0], v ≤ 2) ∧ (2 : Rat) ≠ 0) ∧
    (∀ i, i < 4 → (sFour.call.z0 + ((sFour.cfg.nPre - 2 + i) * sFour.cfg.ns : Nat)).toNat + sFour.cfg.ns ≤ sFour.avail) := by
  refine ⟨by decide, by decide, by decide, by decide, by decide, by decide, by decide, by decide, by decide, by decide, rfl,
    ⟨by decide, rfl, by decide⟩, ⟨rfl, by decide, by decide⟩, by decide⟩

end Sys2Proof.Tests
end

section
/-! PROOFS. The numeric functions of 00_scope: the peak (R17), and the bin rows of the synchroniser (R15) with their ranges. -/

namespace Sys2Proof.Machine

/-! ### The peak -/

/-- `k` is the lowest index below `n` of the largest value of `f` (00_scope R17). -/
structure IsLowestArgmax {R : Type} [LinearOrder R] (f : Nat → R) (n k : Nat) : Prop where
  lt : k < n
  le : ∀ i, i < n → f i ≤ f k
  lt_before : ∀ i, i < k → f i < f k

/-- One value more: the new one where it is larger, else the peak so far. -/
theorem IsLowestArgmax.extend {R : Type} [LinearOrder R] {f : Nat → R} {n k : Nat} (h : IsLowestArgmax f n k) :
    IsLowestArgmax f (n + 1) (if f k < f n then n else k) := by
  have hcases : ∀ i, i < n + 1 → i < n ∨ i = n := by omega
  split
  case isTrue hgt =>
    have hlow : ∀ i, i < n → f i < f n := fun i hi => (h.le i hi).trans_lt hgt
    refine ⟨by omega, fun i hi => ?_, hlow⟩
    obtain hi | rfl := hcases i hi
    · exact (hlow i hi).le
    · exact le_rfl
  case isFalse hle =>
    refine ⟨Nat.lt_succ_of_lt h.lt, fun i hi => ?_, h.lt_before⟩
    obtain hi | rfl := hcases i hi
    · exact h.le i hi
    · exact not_lt.mp hle

section
variable {R C : Type} [LinearOrder R] {A : Arith R C} (hA : ∀ a b, A.rlt a b = true ↔ a < b)
include hA

/-- The search carries the peak of the first `i` values through the rest `l` of them, for an arithmetic with the order of the
reals. -/
theorem peakFrom_isLowestArgmax {f : Nat → R} {bi i : Nat} {l : List R} (h : IsLowestArgmax f i bi)
    (hl : ∀ j (hj : j < l.length), l[j] = f (i + j)) : IsLowestArgmax f (i + l.length) (peakFrom A (f bi) bi i l) := by
  induction l generalizing bi i with
  | nil => exact h
  | cons x xs ih =>
    have hx : x = f i := hl 0 (Nat.succ_pos _)
    have hxs : ∀ j (hj : j < xs.length), xs[j] = f (i + 1 + j) := fun j hj => by
      simpa [Nat.add_assoc, Nat.add_comm 1 j] using hl (j + 1) (Nat.succ_lt_succ hj)
    have hstep := ih h.extend hxs
    rw [List.length_cons, Nat.add_comm xs.length, ← Nat.add_assoc]
    subst hx
    by_cases hlt : f bi < f i
    · simpa [peakFrom, (hA _ _).mpr hlt, hlt] using hstep
    · simpa [peakFrom, (hA _ _).not.mpr hlt, hlt] using hstep

/-- The peak of a non-empty list (00_scope R17), for an arithmetic with the order of the reals. -/
theorem peak_isLowestArgmax {l : List R} (h : l ≠ []) (d : R) : IsLowestArgmax (fun i => l.getD i d) l.length (peak A l) := by
  cases l with
  | nil => exact absurd rfl h
  | cons x xs =>
    have hfirst : IsLowestArgmax (fun i => (x :: xs).getD i d) 1 0 :=
      ⟨Nat.one_pos, fun i hi => by rw [Nat.lt_one_iff.mp hi], fun i hi => absurd hi (Nat.not_lt_zero i)⟩
    have hrest := peakFrom_isLowestArgmax hA hfirst (l := xs) fun j hj => by
      simp [Nat.add_comm 1 j, List.getD_eq_getElem?_getD, hj]
    simpa [peak, Nat.add_comm] using hrest

end

theorem machineArith_rlt (a b : Rat) : machineArith.rlt a b = true ↔ a < b := decide_eq_true_iff

/-- Settles O56: the two rows answer `peak`, which the search's invariant makes the lowest index of the largest value. -/
theorem peakIsLowestArgmax : Obligations.PeakIsLowestArgmax := by
  rintro s l rfl
  refine ⟨peak machineArith s.call.reals, rfl, rfl, fun h => by rw [h, peak], fun h => ?_⟩
  have hpeak := peak_isLowestArgmax machineArith_rlt h 0
  exact ⟨hpeak.lt, hpeak.le, hpeak.lt_before⟩

/-! ### Circular distance and signed residue -/

/-- Two opposite residues sum to 0 or to the modulus. -/
theorem emod_add_neg_emod_le {n : Int} (hn : 0 < n) (x : Int) : x % n + -x % n ≤ n := by
  have hlt := Int.emod_lt_of_pos x hn
  have hlt' := Int.emod_lt_of_pos (-x) hn
  have hdvd : n ∣ x % n + -x % n := Int.dvd_of_emod_eq_zero (by rw [← Int.add_emod, Int.add_right_neg, Int.zero_emod])
  by_contra hgt
  have := Int.le_of_dvd (by omega) (Int.dvd_sub hdvd (Int.dvd_refl n))
  omega

theorem circdist_eq_min {n : Nat} (hn : 0 < n) (a b : Int) : (circdist n a b : Int) = min ((a - b) % n) ((b - a) % n) := by
  have hn' : (n : Int) ≠ 0 := by omega
  rw [circdist, Nat.cast_min, Int.toNat_of_nonneg (Int.emod_nonneg _ hn'), Int.toNat_of_nonneg (Int.emod_nonneg _ hn')]

theorem circdist_comm (n : Nat) (a b : Int) : circdist n a b = circdist n b a := Nat.min_comm _ _

/-- The circular distance is at most half the circle: the smaller of the two ways around, which make one turn. -/
theorem two_mul_circdist_le {n : Nat} (hn : 0 < n) (a b : Int) : 2 * circdist n a b ≤ n := by
  have hmin := circdist_eq_min hn a b
  have hsum := emod_add_neg_emod_le (Int.natCast_pos.mpr hn) (a - b)
  rw [Int.neg_sub] at hsum
  omega

/-- The signed residue lies in `[-n/2, n/2)`. -/
theorem sgnN_range {n : Nat} (hn : 0 < n) (v : Int) : -(n : Int) ≤ 2 * sgnN n v ∧ 2 * sgnN n v < n := by
  have hlow := Int.emod_nonneg v (b := n) (by omega)
  have hhigh := Int.emod_lt_of_pos v (b := n) (by omega)
  simp only [sgnN]
  split <;> omega

theorem dvd_sub_sgnN (n : Nat) (v : Int) : (n : Int) ∣ v - sgnN n v := by
  have hres : (n : Int) ∣ v - v % n := Int.dvd_self_sub_emod
  simp only [sgnN]
  split
  · rw [show v - (v % n - n) = v - v % n + n by omega]
    exact Int.dvd_add hres (Int.dvd_refl _)
  · exact hres

/-- The integer CFO of an offset in `[-n/2, n/2)` lies in `[-n/4, n/4]`. -/
theorem cfoIntOf_range {n : Nat} (h4 : n % 4 = 0) {e : Int} (hlow : -(n : Int) ≤ 2 * e) (hhigh : 2 * e < n) :
    -((n / 4 : Nat) : Int) ≤ cfoIntOf e ∧ cfoIntOf e ≤ ((n / 4 : Nat) : Int) := by
  simp only [cfoIntOf]
  omega

/-! ### The bin rows -/

theorem syncWordMatch_iff (n : Nat) (e0 e1 : Int) : syncWordMatch n e0 e1 = true ↔ circdist n e0 e1 ≤ 1 := decide_eq_true_iff

/-- The machine's range check (41 R133) compares the magnitude of the whole offset with the bound, where there is one. -/
theorem cfoOutOfRange_iff (m : Nat) (c : Int) (cf : Rat) :
    cfoOutOfRange machineArith m c cf = true ↔ m ≠ 0 ∧ (m : Rat) < |(c : Rat) + cf| := by
  have hbelow : (c : Rat) + cf < -(m : Rat) ↔ (m : Rat) < -((c : Rat) + cf) := lt_neg
  rw [lt_abs, ← hbelow]
  simp [cfoOutOfRange, machineArith]

/-- The header's start where the rule's value is not negative (log 31). -/
theorem hdrStartOf_eq {cfg : Cfg} {a0 c : Int} {start : Nat}
    (h : (start : Int) = a0 + c * cfg.os + 2 * cfg.ns + (cfg.ns / 4 : Nat)) : hdrStartOf cfg a0 c = start := by
  rw [hdrStartOf, ← h, Int.toNat_natCast]

theorem exec_hdrStartSto {s : State} {start : Nat}
    (h : (start : Int) = s.call.z1 + s.call.z0 * s.cfg.os + 2 * s.cfg.ns + (s.cfg.ns / 4 : Nat)) :
    exec .hdrStartSto s = .next { s with ret := .hdrStart start (((start : Int) - s.p) % s.cfg.ns).toNat } := by
  change execHdrStartSto s = _
  rw [execHdrStartSto, hdrStartOf_eq h]
  rfl

/-- The two bins of the configured sync word: of both symbols given apart, or of the nibbles of one byte (30_encoding R92). -/
theorem exec_syncSymbols (s : State) :
    exec .syncSymbols s = .next { s with ret := .nats (if s.cfg.two then [s.cfg.v0 % s.cfg.bins, s.cfg.v1 % s.cfg.bins]
      else [s.cfg.v0 / 16 * 8 % s.cfg.bins, s.cfg.v0 % 16 * 8 % s.cfg.bins]) } := by
  change execSyncSymbols s = _
  rw [execSyncSymbols]
  cases s.cfg.two <;> rfl

/-- Settles O57: each row by its own lemma, then the ranges. -/
theorem binRowsAndRanges : Obligations.BinRowsAndRanges := by
  refine ⟨fun s => ⟨rfl, ?syncWordMatch, ⟨_, rfl, rfl⟩, ?cfoRangeCheck, fun _ => exec_hdrStartSto, ?syncSymbols, rfl⟩,
    fun n a b v hn h4 => ?ranges⟩
  case syncWordMatch => exact ⟨_, _, _, rfl, rfl, rfl, syncWordMatch_iff _ _ _⟩
  case cfoRangeCheck => exact ⟨_, rfl, cfoOutOfRange_iff _ _ _⟩
  case syncSymbols =>
    rintro l rfl
    exact exec_syncSymbols s
  case ranges =>
    obtain ⟨hlow, hhigh⟩ := sgnN_range hn v
    exact ⟨two_mul_circdist_le hn a b, circdist_eq_min hn a b, circdist_comm n a b, ⟨hlow, hhigh, dvd_sub_sgnN n v⟩,
      cfoIntOf_range h4 hlow hhigh⟩

end Sys2Proof.Machine
end

section
/-! PROOFS. The register space (10_state R21 to R45): what a read and a write of a register number do, and the words of STATUS and
HDR field by field. -/

namespace Sys2Proof.Machine

/-! ### Reads and writes by register number -/

theorem raise_commandInvalid (s : State) : raise .commandInvalid s = commandInvalid s := rfl

theorem csrRead_of_mapped {n : Nat} (h : n ≤ 0x1F) (s : State) : csrRead n s = { s with rdata := csrView n s } := if_pos h

theorem csrRead_of_unmapped {n : Nat} (h : 0x1F < n) (s : State) : csrRead n s = { commandInvalid s with rdata := 0 } :=
  if_neg (Nat.not_le.mpr h)

/-- A write of an RW register outside a run (10_state R21). -/
theorem csrWrite_of_idle {n : Nat} (hn : 4 ≤ n ∧ n ≤ 16) {s : State} (h : running s = false) (v : Word32) :
    csrWrite n v s = { s with csr := csrSet n v s.csr } := by
  rw [csrWrite, if_neg (by omega), if_pos hn, if_neg (by simp [h])]

/-- A write of an RW register in a run (10_state R21). -/
theorem csrWrite_of_running {n : Nat} (hn : 4 ≤ n ∧ n ≤ 16) {s : State} (h : running s = true) (v : Word32) :
    csrWrite n v s = commandInvalid s := by
  rw [csrWrite, if_neg (by omega), if_pos hn, if_pos h, raise_commandInvalid]

/-- A write of an RO register or of a number that no register has (10_state R21). -/
theorem csrWrite_of_not_rw {n : Nat} (h0 : n ≠ 0) (hn : n < 4 ∨ 16 < n) (v : Word32) (s : State) :
    csrWrite n v s = commandInvalid s := by
  rw [csrWrite, if_neg h0, if_neg (by omega), raise_commandInvalid]

/-- The row `CSR_UNMAPPED` has a register number above `0x1F` (10_state R21). -/
theorem unmapped_wellFormed {n : Byte} {a : CsrAccess} (h : (Instr.csrUnmapped n a).wellFormed = true) : 0x1F < n.toNat :=
  of_decide_eq_true h

/-! ### Registers as rows -/

section
variable {i : Instr} {s : State} {n : Nat}

/-- A row that reads register `n` returns the register's view. -/
theorem exec_readRow {v : Word32} (hrow : exec i s = .next (csrRead n s)) (hn : n ≤ 0x1F) (hv : csrView n s = v) :
    exec i s = .next { s with rdata := v } := by
  rw [hrow, csrRead_of_mapped hn, hv]

/-- A row that writes RW register `n` sets it outside a run and is refused in a run. -/
theorem exec_writeRow {v : Word32} {c : Csr} (hrow : exec i s = .next (csrWrite n v s)) (hn : 4 ≤ n ∧ n ≤ 16)
    (hc : csrSet n v s.csr = c) :
    (running s = false → exec i s = .next { s with csr := c }) ∧
    (running s = true → exec i s = .next (commandInvalid s)) := by
  rw [hrow]
  refine ⟨fun h => ?_, fun h => ?_⟩
  · rw [csrWrite_of_idle hn h, hc]
  · rw [csrWrite_of_running hn h]

/-- A row that writes any other register but CTRL is refused. -/
theorem exec_refusedRow {v : Word32} (hrow : exec i s = .next (csrWrite n v s)) (h0 : n ≠ 0) (hn : n < 4 ∨ 16 < n) :
    exec i s = .next (commandInvalid s) := by
  rw [hrow, csrWrite_of_not_rw h0 hn]

end

/-! ### Words made of fields -/

/-- A field placed above a number of fewer than `k` bits adds `2^k` times its value. -/
theorem ofNat_or_shiftLeft {w k n : Nat} (h : n < 2 ^ k) (m : Nat) :
    BitVec.ofNat w n ||| (BitVec.ofNat w m <<< k) = BitVec.ofNat w (n + 2 ^ k * m) := by
  apply BitVec.eq_of_getLsbD_eq
  intro j hj
  rw [Nat.add_comm n]
  simp only [BitVec.getLsbD_or, BitVec.getLsbD_shiftLeft, BitVec.getLsbD_ofNat, Nat.testBit_two_pow_mul_add _ h, hj]
  by_cases hlt : j < k
  · simp [hlt]
  · have hn : n.testBit j = false := Nat.testBit_lt_two_pow (h.trans_le (Nat.pow_le_pow_right (by decide) (by omega)))
    simp [hlt, hn, show j - k < w by omega]

/-- HDR (10_state R41) as a sum of its fields, each below the next one's place. -/
theorem hdrView_eq (h : Hdrf) :
    hdrView h = BitVec.ofNat 32 (h.payloadLength.toNat + 2 ^ 8 * h.codingRate.toNat + 2 ^ 11 * h.hasCrc.toNat
      + 2 ^ 12 * h.headerCrcOk.toNat + 2 ^ 13 * h.valid.toNat) := by
  have hlen := h.payloadLength.isLt
  have hcr := h.codingRate.isLt
  have hcrc := h.hasCrc.toNat_le
  have hok := h.headerCrcOk.toNat_le
  rw [hdrView, ← BitVec.ofNat_toNat 32 h.payloadLength, ← BitVec.ofNat_toNat 32 h.codingRate]
  simp only [flagBit]
  rw [ofNat_or_shiftLeft (by omega), ofNat_or_shiftLeft (by omega), ofNat_or_shiftLeft (by omega), ofNat_or_shiftLeft (by omega)]

/-- Settles O18: each row is the read of its register number, whose view the table names. -/
theorem csrReadsReturnViews : Obligations.CsrReadsReturnViews := by
  refine fun s => ⟨fun i v hrow => ?mapped, ?hdr, fun n hn => ?unmapped⟩
  case mapped =>
    simp only [List.mem_cons, Prod.mk.injEq] at hrow
    repeat
      obtain ⟨rfl, rfl⟩ | hrow := hrow
      · exact exec_readRow rfl (by decide) rfl
    cases hrow
  case hdr => exact exec_readRow (n := 0x17) rfl (by decide) (hdrView_eq s.hdrf)
  case unmapped => exact congrArg Host.Outcome.next (csrRead_of_unmapped (unmapped_wellFormed hn) s)

/-- Settles O19: each row is the write of its register number, RW or not. -/
theorem csrWritesSetOrAreRefused : Obligations.CsrWritesSetOrAreRefused := by
  refine fun s v => ⟨fun i c hrow => ?rw, fun i hrow => ?ro, fun n hn => ?unmapped⟩
  case rw =>
    simp only [List.mem_cons, Prod.mk.injEq] at hrow
    repeat
      obtain ⟨rfl, rfl⟩ | hrow := hrow
      · exact exec_writeRow rfl (by decide) rfl
    cases hrow
  case ro =>
    simp only [List.mem_cons] at hrow
    repeat
      obtain rfl | hrow := hrow
      · exact exec_refusedRow rfl (by decide) (by decide)
    cases hrow
  case unmapped =>
    have := unmapped_wellFormed hn
    exact congrArg Host.Outcome.next (csrWrite_of_not_rw (by omega) (by omega) v s)

/-! ### Reading back -/

/-- The width of each RW register (10_state R26 to R38; SEARCH_WIN: log 19). -/
def rwWidth : Nat → Nat
  | 0x04 => 4
  | 0x07 => 3
  | 0x08 => 17
  | 0x09 => 4
  | 0x0A => 8
  | 0x0B => 2
  | 0x0C | 0x0D | 0x0E => 16
  | _ => 32

/-- An RW register shows the word last set, cut to its width. -/
theorem csrView_csrSet_self {n : Nat} (hn : 4 ≤ n ∧ n ≤ 16) (v : Word32) (s : State) :
    (csrView n { s with csr := csrSet n v s.csr }).toNat = v.toNat % 2 ^ rwWidth n := by
  have hcut : ∀ w ≤ 32, ((v.setWidth w).setWidth 32).toNat = v.toNat % 2 ^ w := fun w hw => by
    rw [BitVec.toNat_setWidth_of_le hw, BitVec.toNat_setWidth]
  have hfull : v.toNat = v.toNat % 2 ^ 32 := (Nat.mod_eq_of_lt v.isLt).symm
  obtain ⟨hlow, hhigh⟩ := hn
  interval_cases n
  exacts [hcut 4 (by decide), hfull, hfull, hcut 3 (by decide), hcut 17 (by decide), hcut 4 (by decide), hcut 8 (by decide),
    hcut 2 (by decide), hcut 16 (by decide), hcut 16 (by decide), hcut 16 (by decide), hfull, hfull]

/-- Setting one register leaves what the other RW registers show. -/
theorem csrView_csrSet_other {n m : Nat} (hm : 4 ≤ m ∧ m ≤ 16) (hne : m ≠ n) (v : Word32) (s : State) :
    csrView m { s with csr := csrSet n v s.csr } = csrView m s := by
  obtain ⟨hlow, hhigh⟩ := hm
  unfold csrSet
  split
  case h_14 => rfl
  all_goals interval_cases m <;> first | rfl | exact absurd rfl hne

/-- Settles O20: the write sets the register's bits only, and the read returns the register's view. -/
theorem rwRegisterReadsBack : Obligations.RwRegisterReadsBack := by
  intro n w hrow s v hidle
  have hn : (4 ≤ n.toNat ∧ n.toNat ≤ 16) ∧ rwWidth n.toNat = w := by
    simp only [List.mem_cons, Prod.mk.injEq] at hrow
    repeat
      obtain ⟨rfl, rfl⟩ | hrow := hrow
      · decide
    cases hrow
  obtain ⟨hn, rfl⟩ := hn
  refine ⟨_, _, congrArg Host.Outcome.next (csrWrite_of_idle hn hidle v),
    congrArg Host.Outcome.next (csrRead_of_mapped (by omega) _), csrView_csrSet_self hn v s, fun m hlow hhigh hne => ?_, rfl⟩
  exact csrView_csrSet_other ⟨hlow, hhigh⟩ hne v s

end Sys2Proof.Machine
end

section
/-! PROOFS. STATUS bit by bit (10_state R23, 48_host_commands_sequencer R231). -/

namespace Sys2Proof.Machine

/-- A phase code has four bits (30_encoding R97). -/
theorem phase_code_testBit (ph : Phase) {j : Nat} (hj : 4 ≤ j) : ph.code.testBit j = false := by
  have hlt : ph.code < 2 ^ 4 := by cases ph <;> decide
  exact Nat.testBit_lt_two_pow (hlt.trans_le (Nat.pow_le_pow_right (by decide) hj))

/-- `RUNNING` as two tests of `PHASE` (48 R231). -/
theorem running_eq (s : State) : running s = (decide (s.phase ≠ .idle) && decide (s.phase ≠ .done)) := by
  unfold running
  cases s.phase <;> rfl

/-- A flag at place `k` shows at bit `k` and nowhere else. -/
theorem getLsbD_flagBit (b : Bool) {k : Nat} (hk : k < 32) (j : Nat) : (flagBit b k).getLsbD j = (b && decide (k = j)) := by
  cases b with
  | false => simp [flagBit]
  | true =>
    change (BitVec.twoPow 32 k).getLsbD j = _
    simp [BitVec.getLsbD_twoPow, hk]

/-- STATUS is the phase code with one flag at each of the places 4 to 10. -/
theorem statusView_getLsbD (s : State) (j : Nat) :
    (statusView s).getLsbD j = (s.phase.code.testBit j || running s && decide (4 = j) || s.sync.locked && decide (5 = j)
      || running s && !s.eos && starved s && decide (6 = j) || decide (s.fifo ≠ []) && decide (7 = j)
      || s.eos && decide (8 = j) || decide (s.phase = .emit) && fifoFull s && decide (9 = j)
      || configOk s.csr && decide (10 = j)) := by
  have hcode : (BitVec.ofNat 32 s.phase.code).getLsbD j = s.phase.code.testBit j := by
    rw [BitVec.getLsbD_ofNat]
    by_cases hj : j < 32
    · simp [hj]
    · simp [hj, phase_code_testBit s.phase (show 4 ≤ j by omega)]
  simp (disch := decide) only [statusView, BitVec.getLsbD_or, hcode, getLsbD_flagBit]

/-- Bits 3:0 of STATUS: every flag is above them. -/
theorem statusView_code (s : State) : (statusView s).toNat % 16 = s.phase.code := by
  apply Nat.eq_of_testBit_eq
  intro j
  have hbits : ((statusView s).toNat % 16).testBit j = (decide (j < 4) && (statusView s).getLsbD j) :=
    Nat.testBit_mod_two_pow _ 4 j
  rw [hbits, statusView_getLsbD]
  by_cases hj : j < 4
  · simp [hj, show ∀ k, 4 ≤ k → k ≠ j by omega]
  · simp [hj, phase_code_testBit s.phase (Nat.not_lt.mp hj)]

/-- A demodulation is starved where its window is not wholly below AVAIL (42 R150). -/
theorem starved_demod {s : State} (h : s.phase = .hdrDemod ∨ s.phase = .payDemod) :
    starved s = true ↔ s.avail < s.sympos + s.cfg.wlen := by
  rcases h with h | h <;> simp [starved, h]

/-- INJECT_SEARCH is starved where `P >= AVAIL` (48 R240). -/
theorem starved_injectSearch {s : State} (h : s.phase = .search) (hinj : s.cfg.inject = true) :
    starved s = true ↔ s.avail ≤ s.p := by
  simp [starved, h, hinj]

/-- Settles O21: each bit from the list of STATUS's flags. -/
theorem statusBits : Obligations.StatusBits := by
  rintro s v rfl
  change (statusView s).toNat % 16 = _ ∧ _
  refine ⟨statusView_code s, ?running, ?locked, ?waitInput, ?frameAvail, ?eos, ?waitOutput, ?cfgOk, fun k hk => ?high,
    starved_demod, starved_injectSearch⟩
  all_goals
    change (statusView s).getLsbD _ = _
    rw [statusView_getLsbD]
  case running => simp [phase_code_testBit, running_eq]
  case locked | waitInput | eos | cfgOk => simp [phase_code_testBit]
  case frameAvail => simp [phase_code_testBit, List.length_pos_iff]
  case waitOutput => simp [phase_code_testBit, fifoFull]
  case high => simp [phase_code_testBit s.phase (show 4 ≤ k by omega), show ∀ m, m < 11 → m ≠ k by omega]

end Sys2Proof.Machine
end

section
/-! PROOFS. SYNC and HDR_START of a locked frame (10_state R49, 48_host_commands_sequencer R225). -/

namespace Sys2Proof.Machine

/-- From `s` to `t` SYNC and HDR_START stay, or no frame is locked any more. -/
def SyncKeptOrUnlocked (s t : State) : Prop := (t.sync = s.sync ∧ t.hdrStart = s.hdrStart) ∨ t.sync.locked = false

theorem SyncKeptOrUnlocked.refl (s : State) : SyncKeptOrUnlocked s s := .inl ⟨rfl, rfl⟩

theorem starve_sync (ph : Phase) (s : State) : SyncKeptOrUnlocked s (starve ph s) := by
  rcases starve_cases ph s with h | ⟨_, _, h⟩ | ⟨_, _, h⟩ <;> rw [h]
  · exact .refl s
  · exact .inr rfl
  · exact .inr rfl

theorem demodSymbolOp_sync (ph full : Phase) (s : State) : SyncKeptOrUnlocked s (demodSymbolOp ph full s) := by
  rcases demodSymbolOp_cases ph full s with ⟨_, h⟩ | ⟨_, _, h⟩ <;> rw [h]
  · exact starve_sync ph s
  · exact .inl ⟨rfl, rfl⟩

theorem headerDecodeOp_sync (s : State) : SyncKeptOrUnlocked s (headerDecodeOp s) := by
  rcases headerDecodeOp_cases s with h | ⟨_, _, _, h⟩ | ⟨_, _, _, h⟩ | ⟨_, _, _, _, _, h⟩ <;> rw [h]
  · exact .inr rfl
  · exact .inr rfl
  · exact .inr rfl
  · exact .inl ⟨rfl, rfl⟩

theorem payloadBlockOp_sync (s : State) : SyncKeptOrUnlocked s (payloadBlockOp s) := by
  obtain ⟨t, r, ht, _, h⟩ := payloadBlockOp_cases s
  rw [h]
  rcases ht with rfl | rfl <;> exact .inl ⟨rfl, rfl⟩

theorem crcCheckOp_sync (s : State) : SyncKeptOrUnlocked s (crcCheckOp s) := by
  rcases crcCheckOp_cases s with ⟨_, h⟩ | ⟨_, _, t, _, ht, h⟩ <;> rw [h]
  · exact .inl ⟨rfl, rfl⟩
  · rcases ht with rfl | rfl <;> exact .inl ⟨rfl, rfl⟩

theorem emitFrameOp_sync (s : State) : SyncKeptOrUnlocked s (emitFrameOp s) := by
  rcases emitFrameOp_cases s with ⟨_, h⟩ | ⟨_, h⟩ <;> rw [h]
  · exact .refl s
  · exact .inr rfl

/-- In the phases of a frame no operation locks again: only SEARCH and SYNC run `lock`. -/
theorem coreStepOp_sync {s : State} (hframed : s.phase.framed = true) : SyncKeptOrUnlocked s (coreStepOp s) := by
  unfold coreStepOp
  cases hph : s.phase with
  | idle | search | sync | done => rw [hph] at hframed; cases hframed
  | hdrDemod | payDemod => exact demodSymbolOp_sync _ _ s
  | hdrDecode => exact headerDecodeOp_sync s
  | payDecode => exact payloadBlockOp_sync s
  | dewhiten => exact .inl ⟨rfl, rfl⟩
  | crc => exact crcCheckOp_sync s
  | emit => exact emitFrameOp_sync s

/-- Of the host's transactions START and RESET alone write SYNC, and they unlock. -/
theorem HostEffect.sync {s t : State} (e : HostEffect s t) : SyncKeptOrUnlocked s t := by
  cases e with
  | start | reset => exact .inr rfl
  | _ => exact .inl ⟨rfl, rfl⟩

/-- Settles O29: by the invariant a locked frame is in one of its phases, where each move keeps SYNC or unlocks. -/
theorem syncImmutableWhileLocked : Obligations.SyncImmutableWhileLocked := by
  intro i s t hinv hmove hexec hlocked hlocked'
  have hkept : SyncKeptOrUnlocked s t := by
    rcases exec_agentMove hmove s with ⟨_, hcore⟩ | ⟨u, hhost, e⟩
    · obtain rfl := Host.Outcome.next.inj (hcore.symm.trans hexec)
      exact coreStepOp_sync (hinv.locked ▸ hlocked)
    · obtain rfl := Host.Outcome.next.inj (hhost.symm.trans hexec)
      exact e.sync
  rcases hkept with hsame | hunlocked
  · exact hsame
  · rw [hlocked'] at hunlocked
    cases hunlocked

end Sys2Proof.Machine
end

section
/-! PROOFS. What one instruction can do: every row of the table, in every state, has one of a short list of effects. -/

namespace Sys2Proof.Machine

/-- Everything an instruction can do to the state `s`: a move of the host or one of the operations of the sequencer, a function's
value in its port, or a shared action run as a row. -/
inductive InstrEffect (s : State) : State → Prop where
  | host {t : State} (e : HostEffect s t) : InstrEffect s t
  | coreStep : InstrEffect s (coreStepOp s)
  | preambleSearch : InstrEffect s (preambleSearchOp s)
  | syncMatch : InstrEffect s (syncMatchOp s)
  | injectSearch : InstrEffect s (injectSearchOp s)
  | demodSymbol (ph full : Phase) : InstrEffect s (demodSymbolOp ph full s)
  | headerDecode : InstrEffect s (headerDecodeOp s)
  | payloadBlock : InstrEffect s (payloadBlockOp s)
  | dewhiten : InstrEffect s (dewhitenOp s)
  | crcCheck : InstrEffect s (crcCheckOp s)
  | emitFrame : InstrEffect s (emitFrameOp s)
  | endOfStream (ph : Phase) : InstrEffect s (endOfStream ph s)
  | starve (ph : Phase) : InstrEffect s (starve ph s)
  | value (r : Ret) : InstrEffect s (returning r s)
  | lfsrValue (r : Ret) (l : BitVec 9) : InstrEffect s { s with ret := r, lfsr := l }
  | syncFail : InstrEffect s (syncFailed s)
  | lock (c : Int) (f : Rat) (n : Nat) (x : Ext Rat) (a : Nat) : InstrEffect s (lockOn c f n x a s)
  | payloadSetup : InstrEffect s (setupPayload s)
  | headerAbort : InstrEffect s (headerAborted s)
  | raise (k : ErrKind) : InstrEffect s (raise k s)

/-- A function that reads samples returns its value or is starved (log 17). -/
theorem returningIf_effect {α : Type} (o : Option α) (f : α → Ret) (s : State) : InstrEffect s (returningIf o f s) := by
  cases o with
  | none => exact .starve s.phase
  | some a => exact .value (f a)

/-- In INJECT mode DIAGNOSTICS reads no sample (42 R152). -/
theorem diagnostics_effect (s : State) : ∃ t, exec .diagnostics s = .next t ∧ InstrEffect s t := by
  refine ⟨_, rfl, ?_⟩
  split
  · exact .value _
  · exact returningIf_effect _ _ s

theorem exec_effect (i : Instr) (s : State) : ∃ t, exec i s = .next t ∧ InstrEffect s t := by
  by_cases hmove : i.isAgentMove = true
  · rcases exec_agentMove hmove s with ⟨_, h⟩ | ⟨t, h, e⟩
    · exact ⟨_, h, .coreStep⟩
    · exact ⟨t, h, .host e⟩
  · cases i with
    | idle | done => exact ⟨_, rfl, .host .nothing⟩
    | preambleSearch => exact ⟨_, rfl, .preambleSearch⟩
    | syncMatch => exact ⟨_, rfl, .syncMatch⟩
    | demodSymbolHdr | demodSymbolPay => exact ⟨_, rfl, .demodSymbol _ _⟩
    | headerDecode => exact ⟨_, rfl, .headerDecode⟩
    | payloadBlockDecode => exact ⟨_, rfl, .payloadBlock⟩
    | dewhiten => exact ⟨_, rfl, .dewhiten⟩
    | crcCheck => exact ⟨_, rfl, .crcCheck⟩
    | emitFrame => exact ⟨_, rfl, .emitFrame⟩
    | injectSearch => exact ⟨_, rfl, .injectSearch⟩
    | eosAction => exact ⟨_, rfl, .endOfStream _⟩
    | fineTiming | findDownchirp | dechirpFft => exact ⟨_, rfl, returningIf_effect _ _ s⟩
    | diagnostics => exact diagnostics_effect s
    | pn9Step | pn9Byte => exact ⟨_, rfl, .lfsrValue _ _⟩
    | syncFail => exact ⟨_, rfl, .syncFail⟩
    | lock => exact ⟨_, rfl, .lock _ _ _ _ _⟩
    | payloadSetup => exact ⟨_, rfl, .payloadSetup⟩
    | headerAbort => exact ⟨_, rfl, .headerAbort⟩
    | raise => exact ⟨_, rfl, .raise _⟩
    | chirpUp | chirpDown | chirpRefOs | f32ToNum | circdist | argmaxPeak | stable | fracCfo | snrEst | coarseAlign
    | syncSymbols | syncWordMatch | cfoInt | cfoRangeCheck | hdrStartSto | decimate | dft | cfoFracCorrect | cfoIntCorrect
    | peak | bin2sym | grayEnc | grayDec | symReduce | symval | interBin | deinterleave | rowToCodeword | interleave
    | hamEnc | hamDec | nib2byte | hdrParse | hdrChk | nsym | crc16 | loraCrc | crcRx | configValid | ldroAuto | nextSearch
    | frameWords | hamDec5 | hamDec6 | hamDec7 | hamDec8 => exact ⟨_, rfl, .value _⟩
    | _ => exact absurd rfl hmove

/-- The state after an instruction is one of its effects. -/
theorem instrEffect_of_exec {i : Instr} {s t : State} (h : exec i s = .next t) : InstrEffect s t := by
  obtain ⟨u, hu, e⟩ := exec_effect i s
  obtain rfl := Host.Outcome.next.inj (hu.symm.trans h)
  exact e

end Sys2Proof.Machine
end

section
/-! PROOFS. ERR is sticky (10_state R24, 60_exceptions R262): what each effect of an instruction does to the error record. -/

namespace Sys2Proof.Machine

/-! ### Bits that stay -/

/-- Every bit of ERR that is set in `s` is set in `t`. -/
def ErrKept (s t : State) : Prop := ∀ c, s.err.getLsbD c = true → t.err.getLsbD c = true

/-- An update that does not write ERR keeps its bits. -/
theorem ErrKept.of_eq {s t : State} (h : t.err = s.err) : ErrKept s t := fun _ hc => h ▸ hc

/-- A raise keeps the bits (60_exceptions R262), whatever else is written with it. -/
theorem ErrKept.of_raise {s t : State} {k : ErrKind} (h : t.err = (raise k s).err) : ErrKept s t := fun c hc => by
  rw [h, raise_err, BitVec.getLsbD_or, hc, Bool.true_or]

theorem starve_err (ph : Phase) (s : State) : ErrKept s (starve ph s) := by
  rcases starve_cases ph s with h | ⟨_, _, h⟩ | ⟨_, _, h⟩ <;> rw [h]
  · exact .of_eq rfl
  · exact .of_eq rfl
  · exact .of_raise rfl

/-- An end-of-stream action raises or leaves ERR alone (48 R235). -/
theorem endOfStream_err (ph : Phase) (s : State) : ErrKept s (endOfStream ph s) := by
  cases ph with
  | hdrDemod | payDemod => exact .of_raise rfl
  | _ => exact .of_eq rfl

theorem lockOn_err (c : Int) (f : Rat) (n : Nat) (x : Ext Rat) (a : Nat) (s : State) : ErrKept s (lockOn c f n x a s) := by
  rcases lockOn_cases c f n x a s with ⟨_, h⟩ | ⟨_, h⟩ <;> rw [h] <;> exact .of_eq rfl

theorem preambleSearchOp_err (s : State) : ErrKept s (preambleSearchOp s) := by
  rcases preambleSearchOp_cases s with ⟨_, h⟩ | ⟨_, h⟩ | ⟨_, _, _, _, h⟩ <;> rw [h]
  · exact starve_err _ s
  · exact .of_raise rfl
  · exact .of_eq rfl

theorem syncMatchOp_err (s : State) : ErrKept s (syncMatchOp s) := by
  rcases syncMatchOp_cases s with ⟨_, h⟩ | ⟨_, h⟩ | ⟨_, h⟩ | ⟨_, _, _, _, h⟩ <;> rw [h]
  · exact starve_err _ s
  · exact .of_raise rfl
  · exact .of_raise rfl
  · exact lockOn_err _ _ _ _ _ s

theorem injectSearchOp_err (s : State) : ErrKept s (injectSearchOp s) := by
  rcases injectSearchOp_cases s with ⟨_, h⟩ | ⟨_, h⟩ <;> rw [h]
  · exact starve_err _ s
  · exact lockOn_err _ _ _ _ _ s

theorem demodSymbolOp_err (ph full : Phase) (s : State) : ErrKept s (demodSymbolOp ph full s) := by
  rcases demodSymbolOp_cases ph full s with ⟨_, h⟩ | ⟨_, _, h⟩ <;> rw [h]
  · exact starve_err _ s
  · exact .of_eq rfl

theorem headerDecodeOp_err (s : State) : ErrKept s (headerDecodeOp s) := by
  rcases headerDecodeOp_cases s with h | ⟨_, _, _, h⟩ | ⟨_, _, _, h⟩ | ⟨_, _, _, _, _, h⟩ <;> rw [h]
  · exact .of_raise (k := .hammingUncorrectable) rfl
  · exact .of_raise (k := .headerCrcMismatch) rfl
  · exact .of_raise (k := .headerFieldInvalid) rfl
  · exact .of_eq rfl

theorem payloadBlockOp_err (s : State) : ErrKept s (payloadBlockOp s) := by
  obtain ⟨t, r, ht, _, h⟩ := payloadBlockOp_cases s
  rw [h]
  rcases ht with rfl | rfl
  · exact .of_eq rfl
  · exact .of_raise rfl

theorem crcCheckOp_err (s : State) : ErrKept s (crcCheckOp s) := by
  rcases crcCheckOp_cases s with ⟨_, h⟩ | ⟨_, _, t, _, ht, h⟩ <;> rw [h]
  · exact .of_eq rfl
  · rcases ht with rfl | rfl
    · exact .of_eq rfl
    · exact .of_raise rfl

theorem emitFrameOp_err (s : State) : ErrKept s (emitFrameOp s) := by
  rcases emitFrameOp_cases s with ⟨_, h⟩ | ⟨_, h⟩ <;> rw [h] <;> exact .of_eq rfl

/-- No operation of the CORE clears a bit of ERR. -/
theorem coreStepOp_err (s : State) : ErrKept s (coreStepOp s) := by
  unfold coreStepOp
  cases s.phase with
  | idle | done => exact .of_eq rfl
  | search =>
    dsimp only
    split
    · exact injectSearchOp_err s
    · exact preambleSearchOp_err s
  | sync => exact syncMatchOp_err s
  | hdrDemod | payDemod => exact demodSymbolOp_err _ _ s
  | hdrDecode => exact headerDecodeOp_err s
  | payDecode => exact payloadBlockOp_err s
  | dewhiten => exact .of_eq rfl
  | crc => exact crcCheckOp_err s
  | emit => exact emitFrameOp_err s

/-! ### What clears it -/

/-- In IDLE with no frame and the configuration registers of reset, no bit of STATUS is set. -/
theorem statusView_resetOp (s : State) : statusView (resetOp s) = 0 := by
  have hphase : (resetOp s).phase = .idle := rfl
  have hrun : running (resetOp s) = false := rfl
  have hlocked : (resetOp s).sync.locked = false := rfl
  have hfifo : (resetOp s).fifo = [] := rfl
  have heos : (resetOp s).eos = false := rfl
  have hcfg : configOk (resetOp s).csr = false := rfl
  simp [statusView, flagBit, Phase.code, hphase, hrun, hlocked, hfifo, heos, hcfg]

theorem csrView_resetOp (s : State) {n : Nat} (hn : (1 ≤ n ∧ n ≤ 3) ∨ (0x11 ≤ n ∧ n ≤ 0x1F)) : csrView n (resetOp s) = 0 := by
  have hhigh : hiHalf 0 = 0 := by simp [hiHalf]
  have hhdr : hdrView .reset = 0 := by decide
  obtain ⟨hlow, hle⟩ | ⟨hlow, hle⟩ := hn
  · interval_cases n
    exacts [statusView_resetOp s, rfl, rfl]
  · interval_cases n
    exacts [rfl, rfl, rfl, rfl, rfl, hhigh, hhdr, rfl, hhigh, rfl, hhigh, rfl, rfl, rfl, rfl]

/-- RESET gives the values of 70_reset R280. -/
theorem resetOp_resetValues (s : State) : ResetValues (resetOp s) where
  phase := rfl
  csr := rfl
  errors := ⟨rfl, rfl⟩
  counters := ⟨rfl, rfl, rfl⟩
  cursors := ⟨rfl, rfl, rfl, rfl, rfl⟩
  store := rfl
  sync := rfl
  hdrf := rfl
  lists := ⟨rfl, rfl, rfl, rfl⟩
  counts := ⟨rfl, rfl, rfl⟩
  lfsr := rfl
  crc := ⟨rfl, rfl, rfl, rfl⟩
  fifo := rfl
  views _ hn := csrView_resetOp s hn

/-- The error record is cleared by RESET or by a START accepted in `s`. -/
def ErrCleared (s t : State) : Prop :=
  t.err = 0 ∧ t.lastErr = 0 ∧ (ResetValues t ∨ (running s = false ∧ configOk s.csr = true ∧ t.phase = .search))

theorem HostEffect.err {s t : State} (e : HostEffect s t) : ErrKept s t ∨ ErrCleared s t := by
  cases e with
  | refused | badRead | badPop | badBeat | badStart => exact .inl (.of_raise rfl)
  | nothing | readback | config | beat | endStream | pop => exact .inl (.of_eq rfl)
  | start hidle hok => exact .inr ⟨rfl, rfl, .inr ⟨hidle, hok, rfl⟩⟩
  | reset => exact .inr ⟨rfl, rfl, .inl (resetOp_resetValues s)⟩

theorem InstrEffect.err {s t : State} (e : InstrEffect s t) : ErrKept s t ∨ ErrCleared s t := by
  cases e with
  | host e => exact e.err
  | coreStep => exact .inl (coreStepOp_err s)
  | preambleSearch => exact .inl (preambleSearchOp_err s)
  | syncMatch => exact .inl (syncMatchOp_err s)
  | injectSearch => exact .inl (injectSearchOp_err s)
  | demodSymbol ph full => exact .inl (demodSymbolOp_err ph full s)
  | headerDecode => exact .inl (headerDecodeOp_err s)
  | payloadBlock => exact .inl (payloadBlockOp_err s)
  | crcCheck => exact .inl (crcCheckOp_err s)
  | emitFrame => exact .inl (emitFrameOp_err s)
  | endOfStream ph => exact .inl (endOfStream_err ph s)
  | starve ph => exact .inl (starve_err ph s)
  | lock c f n x a => exact .inl (lockOn_err c f n x a s)
  | raise k => exact .inl (.of_raise rfl)
  | dewhiten | value | lfsrValue | syncFail | payloadSetup | headerAbort => exact .inl (.of_eq rfl)

/-- Settles O48: every effect of an instruction keeps the bits of ERR, but for an accepted START and for RESET. -/
theorem errorBitsAreSticky : Obligations.ErrorBitsAreSticky := by
  intro i s t c hexec hc
  exact (instrEffect_of_exec hexec).err.imp_left fun hkept => hkept c hc

end Sys2Proof.Machine
end

section
/-! PROOFS. One step of the machine (20_memory R65, R72): which of its instructions runs. -/

namespace Sys2Proof.Machine

/-- The host waits with a beat while SAMPLE_IN is not ready, and with nothing else (20_memory R65). -/
theorem hostWaits_iff (i : Instr) (s : State) :
    hostWaits i s = true ↔
      (∃ b, i = .push b ∨ i = .pushsym b) ∧ running s = true ∧ s.eos = false ∧ storeFull s = true := by
  cases i with
  | push | pushsym => simp [hostWaits, notReady, and_assoc]
  | _ => simp [hostWaits]

theorem step_of_empty {s : State} (hin : s.inbox = []) : step s = exec .coreStep s := by
  rw [step, hin]

/-- A step with a packet pending that decodes: the beat waits, or the packet is taken. -/
theorem step_of_pending {s : State} {pkt : Packet} {rest : List Packet} {i : Instr} (hin : s.inbox = pkt :: rest)
    (hdec : decode pkt = .ok i) :
    step s = if hostWaits i s then exec .coreStep s else exec i { s with inbox := rest } := by
  rw [step, hin]
  simp only [hdec]

/-- Settles O4, by the two equations of `step`. -/
theorem stepRunsDecodedInstruction : Obligations.StepRunsDecodedInstruction := by
  refine fun s => ⟨step_of_empty, fun pkt rest i hin hdec _ => ?_⟩
  rw [step_of_pending hin hdec, ← hostWaits_iff]
  exact ⟨fun hwait => if_pos hwait, fun hready => if_neg hready⟩

/-- A step that answers is a CORE step, or takes the oldest packet and runs its instruction. -/
theorem step_cases {s t : State} (h : step s = .next t) :
    t = coreStepOp s ∨
    ∃ pkt rest i, s.inbox = pkt :: rest ∧ decode pkt = .ok i ∧ exec i { s with inbox := rest } = .next t := by
  cases hin : s.inbox with
  | nil =>
    rw [step_of_empty hin] at h
    exact .inl (Host.Outcome.next.inj h).symm
  | cons pkt rest =>
    cases hdec : decode pkt with
    | ok i =>
      rw [step_of_pending hin hdec] at h
      split at h
      · exact .inl (Host.Outcome.next.inj h).symm
      · exact .inr ⟨pkt, rest, i, rfl, hdec, h⟩
    | malformed => rw [step, hin] at h; simp [hdec] at h
    | noRow k c => rw [step, hin] at h; simp [hdec] at h

end Sys2Proof.Machine
end

section
/-! PROOFS. The sample store under one beat (20_memory R60, R61, R63) and the numbers a beat carries (R67). -/

namespace Sys2Proof.Machine

/-! ### One beat -/

/-- An accepted beat appends its entry; only the error record can differ. -/
theorem inBeat_of_accepted (b : Beat) {s : State} (hrun : running s = true) (heos : s.eos = false) (hroom : storeFull s = false) :
    ∃ t, (t = appendSample (beatEntry s b).1 s ∨ t = raise .nonFiniteSample (appendSample (beatEntry s b).1 s)) ∧
      inBeat b s = t := by
  refine ⟨_, ?_, rfl⟩
  rw [inBeat, if_neg (by simp [hrun, heos]), if_neg (by simp [hroom])]
  split
  · exact .inr rfl
  · exact .inl rfl

/-- Settles O15: the beat is an append, whose reads the laws of the store give; a raise does not show in a read. -/
theorem beatWritesOneStoreEntry : Obligations.BeatWritesOneStoreEntry := by
  intro b s hwf hrun heos hroom
  obtain ⟨t, ht, hbeat⟩ := inBeat_of_accepted b hrun heos hroom
  have havail : t.avail = s.avail + 1 := by obtain rfl | rfl := ht <;> rfl
  have hform : Memory.wf t = Memory.wf (appendSample (beatEntry s b).1 s) := by obtain rfl | rfl := ht <;> rfl
  have hread : ∀ i, sampleAt t i = sampleAt (appendSample (beatEntry s b).1 s) i := by
    obtain rfl | rfl := ht <;> exact fun _ => rfl
  refine ⟨t, congrArg Host.Outcome.next hbeat, havail, hform.trans (appendSample_memory_wf _ hwf), fun i hi => ?other,
    fun hretire => ?self⟩
  case other => exact (hread i).trans (sampleAt_appendSample_other _ hwf hi)
  case self => exact (hread _).trans (sampleAt_appendSample_self _ hwf hretire)

/-! ### Binary32 words -/

theorem toNat_exponentField (w : Word32) : (w.extractLsb' 23 8).toNat = w.toNat / 2 ^ 23 % 256 := by
  rw [BitVec.extractLsb'_toNat, Nat.shiftRight_eq_div_pow]

theorem toNat_fractionField (w : Word32) : (w.extractLsb' 0 23).toNat = w.toNat % 2 ^ 23 := by
  rw [BitVec.extractLsb'_toNat, Nat.shiftRight_zero]

theorem signBit_eq (w : Word32) : w.getLsbD 31 = decide (2 ^ 31 ≤ w.toNat) := by
  rw [← BitVec.msb_eq_getLsbD_last (x := w), BitVec.msb_eq_decide]

/-- A multiple of `2^-149` with its sign. -/
theorem mkRat_signed (neg : Bool) (m : Nat) :
    mkRat (if neg then -(m : Int) else m) (2 ^ 149) = (if neg then -1 else 1) * (m : Rat) * (2 : Rat) ^ (-149 : Int) := by
  rw [Rat.mkRat_eq_div, zpow_neg, div_eq_mul_inv]
  cases neg <;> simp <;> norm_num

/-- The conversion field by field (20_memory R67). -/
theorem f32_eq {w : Word32} {e f : Nat} {sign : Rat} (he : e = w.toNat / 2 ^ 23 % 256) (hf : f = w.toNat % 2 ^ 23)
    (hsign : sign = if w.toNat < 2 ^ 31 then 1 else -1) :
    f32 w = if e = 255 then (0, true)
      else (sign * ((if e = 0 then f else (2 ^ 23 + f) * 2 ^ (e - 1) : Nat) : Rat) * (2 : Rat) ^ (-149 : Int), false) := by
  have hneg : (if w.getLsbD 31 then -1 else 1 : Rat) = sign := by
    rw [hsign, signBit_eq]
    by_cases h : w.toNat < 2 ^ 31
    · rw [if_pos h, if_neg (by simpa using h)]
    · rw [if_neg h, if_pos (by simpa using h)]
  simp only [f32, toNat_exponentField, toNat_fractionField, ← he, ← hf]
  split
  · rfl
  · rw [mkRat_signed, hneg]

/-- Settles O16, from the word's three fields. -/
theorem floatWordsAreExact : Obligations.FloatWordsAreExact := by
  refine ⟨fun s => rfl, fun w e f sign he hf hsign => ?_⟩
  rw [f32_eq he hf hsign]
  refine ⟨fun h => if_pos h, fun h => ?zero, fun hpos hlt => ?normal⟩
  case zero => rw [if_neg (by omega), if_pos h]
  case normal =>
    have hexp : ((e : Int) - 150) = ((e - 1 : Nat) : Int) + -149 := by omega
    rw [if_neg (by omega), if_neg (by omega), hexp, zpow_add₀ two_ne_zero, zpow_natCast]
    push_cast
    ring_nf

end Sys2Proof.Machine
end

section
/-! PROOFS. Reads and the host's pace (20_memory R64, R75): an evaluation that was not starved answers the same when more can be
read, so a CORE step that is not starved commutes with an appended entry. -/

namespace Sys2Proof.Machine

/-! ### More entries readable -/

/-- `f'` answers whatever `f` answers, and perhaps more. -/
def Extends {α β : Type} (f f' : α → Option β) : Prop := ∀ a b, f a = some b → f' a = some b

theorem mapO_extends {α β : Type} {f f' : α → Option β} (h : Extends f f') : Extends (mapO f) (mapO f') := by
  intro l
  induction l with
  | nil => exact fun _ hm => hm
  | cons a as ih =>
    intro m hm
    simp only [mapO] at hm ⊢
    split at hm
    · cases hm
    next b hb =>
      split at hm
      · cases hm
      next bs hbs => rw [h a b hb, ih bs hbs]; exact hm

section
variable {R C : Type} (A : Arith R C) (cfg : Cfg) {rd rd' : Nat → Option (List Cx)} (h : Extends rd rd')
include h

theorem specAt_extends (conjIn : Bool) (cf : R) : Extends (specAt A cfg rd conjIn cf) (specAt A cfg rd' conjIn cf) := by
  intro a y hy
  unfold specAt at hy ⊢
  split at hy
  · cases hy
  next win hwin => rw [h a win hwin]; exact hy

theorem timingMetric_extends (q2 : Nat) (cf : R) : Extends (timingMetric A cfg rd q2 cf) (timingMetric A cfg rd' q2 cf) := by
  intro d m hm
  unfold timingMetric at hm ⊢
  split at hm
  · cases hm
  next ys hys => rw [mapO_extends (fun _ _ hy => specAt_extends A cfg h _ _ _ _ hy) _ _ hys]; exact hm

theorem fineTiming_extends (q2 : Nat) : Extends (fineTiming A cfg rd q2) (fineTiming A cfg rd' q2) := by
  intro cf d hd
  simp only [fineTiming] at hd ⊢
  split at hd
  · cases hd
  next ms hms => rw [mapO_extends (fun _ _ hm => timingMetric_extends A cfg h _ _ _ _ hm) _ _ hms]; exact hd

theorem examine_extends : Extends (examine A cfg rd) (examine A cfg rd') := by
  intro q found hfound
  simp only [examine] at hfound ⊢
  split at hfound
  · cases hfound
  next ys hys =>
    rw [mapO_extends (specAt_extends A cfg h _ _) _ _ hys]
    dsimp only
    split at hfound
    next hstable =>
      rw [if_pos hstable]
      split at hfound
      · cases hfound
      next yc hyc =>
        rw [mapO_extends (specAt_extends A cfg h _ _) _ _ hyc]
        dsimp only
        split at hfound
        · cases hfound
        next d hd => rw [fineTiming_extends A cfg h _ _ _ hd]; exact hfound
    next hstable => rw [if_neg hstable]; exact hfound

theorem searchFrom_extends (p : Nat) : Extends (searchFrom A cfg rd p) (searchFrom A cfg rd' p) := by
  intro ws
  induction ws with
  | nil => exact fun _ hfound => hfound
  | cons w ws ih =>
    intro found hfound
    simp only [searchFrom] at hfound ⊢
    split at hfound
    · cases hfound
    next f hf => rw [examine_extends A cfg h _ _ hf]; exact hfound
    next hnone => rw [examine_extends A cfg h _ _ hnone]; exact ih found hfound

theorem findDownIn_extends (q2 : Int) (cf : R) : Extends (findDownIn A cfg rd q2 cf) (findDownIn A cfg rd' q2 cf) := by
  intro ws
  induction ws with
  | nil => exact fun _ hfound => hfound
  | cons w ws ih =>
    intro found hfound
    simp only [findDownIn] at hfound ⊢
    split at hfound
    next u d hu hd =>
      rw [specAt_extends A cfg h _ _ _ _ hu, specAt_extends A cfg h _ _ _ _ hd]
      dsimp only
      split at hfound
      next hdown => rw [if_pos hdown]; exact hfound
      next hup => rw [if_neg hup]; exact ih found hfound
    · cases hfound

theorem syncAttempt_extends (p : Nat) (q2 : Int) : Extends (syncAttempt A cfg rd p q2) (syncAttempt A cfg rd' p q2) := by
  intro cf r hr
  simp only [syncAttempt] at hr ⊢
  split at hr
  · cases hr
  next hnone =>
    rw [findDownchirp, findDownIn_extends A cfg h _ _ _ _ hnone]
    exact hr
  next wd hwd =>
    rw [findDownchirp, findDownIn_extends A cfg h _ _ _ _ hwd]
    dsimp only
    split at hr
    next y0 y1 hy0 hy1 => rw [specAt_extends A cfg h _ _ _ _ hy0, specAt_extends A cfg h _ _ _ _ hy1]; exact hr
    · cases hr

end

/-! ### An appended entry -/

section
variable {s : State} (z : Cx)

theorem appendSample_window_extends (hwf : Memory.wf s = true) (len : Nat) :
    Extends (window s len) (window (appendSample z s) len) := fun _ _ => window_appendSample z hwf

theorem searchResult_appendSample (hwf : Memory.wf s = true) {r : Option (Found Rat)} (hr : searchResult s = some r) :
    searchResult (appendSample z s) = some r :=
  searchFrom_extends machineArith s.cfg (appendSample_window_extends z hwf _) s.p _ r hr

theorem syncResult_appendSample (hwf : Memory.wf s = true) {r : SyncResult} (hr : syncResult s = some r) :
    syncResult (appendSample z s) = some r :=
  syncAttempt_extends machineArith s.cfg (appendSample_window_extends z hwf _) s.p s.cand.q2 _ r hr

/-! ### Operations that are not starved -/

theorem lockOn_appendSample (c : Int) (f : Rat) (n : Nat) (x : Ext Rat) (a : Nat) :
    lockOn c f n x a (appendSample z s) = appendSample z (lockOn c f n x a s) := by
  rcases lockOn_cases c f n x a s with ⟨himp, h⟩ | ⟨himp, h⟩ <;> rw [h]
  · exact if_pos himp
  · exact if_neg (ne_true_of_eq_false himp)

theorem preambleSearchOp_appendSample (hwf : Memory.wf s = true) {r : Option (Found Rat)} (hr : searchResult s = some r) :
    preambleSearchOp (appendSample z s) = appendSample z (preambleSearchOp s) := by
  unfold preambleSearchOp
  rw [searchResult_appendSample z hwf hr, hr]
  rcases r with _ | ⟨q2, cf, snr⟩ <;> rfl

theorem syncMatchOp_appendSample (hwf : Memory.wf s = true) {r : SyncResult} (hr : syncResult s = some r) :
    syncMatchOp (appendSample z s) = appendSample z (syncMatchOp s) := by
  unfold syncMatchOp
  rw [syncResult_appendSample z hwf hr, hr]
  cases r with
  | notFound | cfoOut => rfl
  | locked c sto start => exact lockOn_appendSample z c _ sto _ start

theorem injectSearchOp_appendSample (hp : s.p < s.avail) :
    injectSearchOp (appendSample z s) = appendSample z (injectSearchOp s) := by
  unfold injectSearchOp
  rw [if_neg (Nat.not_le.mpr hp), if_neg (by simp; omega)]
  exact lockOn_appendSample z _ _ _ _ _

theorem demodSymbolOp_appendSample (hwf : Memory.wf s = true) (ph full : Phase) (hread : s.sympos + s.cfg.wlen ≤ s.avail) :
    demodSymbolOp ph full (appendSample z s) = appendSample z (demodSymbolOp ph full s) := by
  obtain ⟨win, hwin⟩ : ∃ win, window s s.cfg.wlen s.sympos = some win := ⟨_, if_pos hread⟩
  have hwin' : window (appendSample z s) (appendSample z s).cfg.wlen (appendSample z s).sympos = some win :=
    window_appendSample z hwf hwin
  unfold demodSymbolOp
  rw [hwin, hwin']
  rfl

/-- HEADER_DECODE reads SYMBUF and CFG only. -/
theorem headerDecodeOp_appendSample : headerDecodeOp (appendSample z s) = appendSample z (headerDecodeOp s) := by
  have hrows : headerRows (appendSample z s) = headerRows s := rfl
  unfold headerDecodeOp
  rw [hrows]
  split
  · dsimp only
    split
    · rfl
    · split <;> rfl
  · rfl

theorem payloadBlockOp_appendSample : payloadBlockOp (appendSample z s) = appendSample z (payloadBlockOp s) := by
  have hvalues : ∀ w k, blockValues (appendSample z s) w k = blockValues s w k := fun _ _ => rfl
  simp only [payloadBlockOp, hvalues, appendSample_hdrf, appendSample_cfg, appendSample_need, appendSample_nib,
    appendSample_hamUnc]
  split <;> rfl

theorem crcCheckOp_appendSample : crcCheckOp (appendSample z s) = appendSample z (crcCheckOp s) := by
  cases hcrc : s.hdrf.hasCrc with
  | false => simp only [crcCheckOp, appendSample_hdrf, hcrc]; rfl
  | true =>
    by_cases hrx : crcRxOf s.bytes s.hdrf.payloadLength.toNat = loraCrc (firstBytes s.bytes s.hdrf.payloadLength.toNat)
    · simp only [crcCheckOp, appendSample_hdrf, appendSample_bytes, hcrc, hrx, ↓reduceIte]; rfl
    · simp only [crcCheckOp, appendSample_hdrf, appendSample_bytes, hcrc, hrx, ↓reduceIte]; rfl

theorem emitFrameOp_appendSample : emitFrameOp (appendSample z s) = appendSample z (emitFrameOp s) := by
  have hfull : fifoFull (appendSample z s) = fifoFull s := rfl
  unfold emitFrameOp
  rw [hfull]
  split <;> rfl

/-- The operation of PHASE SEARCH in the two modes (48 R223, R240). -/
theorem coreStepOp_injectSearch (hph : s.phase = .search) (hinj : s.cfg.inject = true) : coreStepOp s = injectSearchOp s := by
  simp only [coreStepOp, hph, hinj, ↓reduceIte]

theorem coreStepOp_preambleSearch (hph : s.phase = .search) (hinj : s.cfg.inject = false) :
    coreStepOp s = preambleSearchOp s := by
  simp only [coreStepOp, hph, hinj, Bool.false_eq_true, ↓reduceIte]

theorem coreStepOp_search_appendSample (hwf : Memory.wf s = true) (hph : s.phase = .search) (hfed : starved s = false) :
    coreStepOp (appendSample z s) = appendSample z (coreStepOp s) := by
  cases hinj : s.cfg.inject with
  | true =>
    have hp : ¬ s.avail ≤ s.p := by simpa [hfed] using (starved_injectSearch hph hinj).not
    rw [coreStepOp_injectSearch hph hinj, coreStepOp_injectSearch (s := appendSample z s) hph hinj]
    exact injectSearchOp_appendSample z (Nat.lt_of_not_le hp)
  | false =>
    obtain ⟨r, hr⟩ : ∃ r, searchResult s = some r := by
      simpa [starved, hph, hinj, Option.isSome_iff_exists] using hfed
    rw [coreStepOp_preambleSearch hph hinj, coreStepOp_preambleSearch (s := appendSample z s) hph hinj]
    exact preambleSearchOp_appendSample z hwf hr

/-- A CORE step that is not starved commutes with an appended entry. -/
theorem coreStepOp_appendSample (hwf : Memory.wf s = true) (hfed : starved s = false) :
    coreStepOp (appendSample z s) = appendSample z (coreStepOp s) := by
  cases hph : s.phase with
  | search => exact coreStepOp_search_appendSample z hwf hph hfed
  | sync =>
    obtain ⟨r, hr⟩ : ∃ r, syncResult s = some r := by
      simpa [starved, hph, Option.isSome_iff_exists] using hfed
    simpa only [coreStepOp, appendSample_phase, hph] using syncMatchOp_appendSample z hwf hr
  | hdrDemod | payDemod =>
    have hread : s.sympos + s.cfg.wlen ≤ s.avail := by simpa [starved, hph] using hfed
    simpa only [coreStepOp, appendSample_phase, hph] using demodSymbolOp_appendSample z hwf _ _ hread
  | hdrDecode => simpa only [coreStepOp, appendSample_phase, hph] using headerDecodeOp_appendSample z
  | payDecode => simpa only [coreStepOp, appendSample_phase, hph] using payloadBlockOp_appendSample z
  | crc => simpa only [coreStepOp, appendSample_phase, hph] using crcCheckOp_appendSample z
  | emit => simpa only [coreStepOp, appendSample_phase, hph] using emitFrameOp_appendSample z
  | dewhiten => simp only [coreStepOp, appendSample_phase, hph]; rfl
  | idle | done => simp only [coreStepOp, appendSample_phase, hph]

end

/-- Settles O24: every operation reads below AVAIL or not at all. -/
theorem pushCommutesWithCoreStep : Obligations.PushCommutesWithCoreStep := by
  intro s t z hwf hfed hstep
  obtain rfl : coreStepOp s = t := Host.Outcome.next.inj hstep
  exact congrArg Host.Outcome.next (coreStepOp_appendSample z hwf hfed)

end Sys2Proof.Machine
end

section
/-! PROOFS. Who writes the store, the registers and CFG, the host's list and the frame FIFO (20_memory R61, R78; 10_state R21, R48,
R58): the operations of the sequencer push frames and leave the rest, and the host's transactions write what their rules name. -/

namespace Sys2Proof.Machine

/-! ### What an operation of the sequencer leaves -/

/-- What belongs to the host's side of the machine: the sample store with AVAIL, the RW registers, CFG, the pending transactions and
the parameters of 00_scope R11. -/
def hostPart (s : State) : List Cx × Nat × Csr × Cfg × List Packet × Inst := (s.store, s.avail, s.csr, s.cfg, s.inbox, s.inst)

theorem hostPart_eq_iff {s t : State} : hostPart t = hostPart s ↔
    t.store = s.store ∧ t.avail = s.avail ∧ t.csr = s.csr ∧ t.cfg = s.cfg ∧ t.inbox = s.inbox ∧ t.inst = s.inst := by
  simp only [hostPart, Prod.mk.injEq]

/-- One record more at the end of the FIFO, which had room (48 R233). -/
def FifoGains (s t : State) : Prop :=
  ∃ f, t.fifo = s.fifo ++ [f] ∧ s.fifo.length < s.inst.fifoDepth ∧ t.frameCount = s.frameCount + 1

/-- An operation of the sequencer leaves the host's part, and the FIFO but for a record it pushes. -/
structure OpFrame (s t : State) : Prop where
  host : hostPart t = hostPart s
  fifo : t.fifo = s.fifo ∨ FifoGains s t

/-- An operation that pushes no record. -/
theorem OpFrame.quiet {s t : State} (hhost : hostPart t = hostPart s) (hfifo : t.fifo = s.fifo) : OpFrame s t :=
  ⟨hhost, .inl hfifo⟩

theorem endOfStream_frame (ph : Phase) (s : State) : OpFrame s (endOfStream ph s) := by
  cases ph <;> exact .quiet rfl rfl

theorem starve_frame (ph : Phase) (s : State) : OpFrame s (starve ph s) := by
  unfold starve
  split
  · exact endOfStream_frame ph s
  · exact .quiet rfl rfl

theorem lockOn_frame (c : Int) (f : Rat) (n : Nat) (x : Ext Rat) (a : Nat) (s : State) : OpFrame s (lockOn c f n x a s) := by
  rcases lockOn_cases c f n x a s with ⟨_, h⟩ | ⟨_, h⟩ <;> rw [h] <;> exact .quiet rfl rfl

theorem preambleSearchOp_frame (s : State) : OpFrame s (preambleSearchOp s) := by
  rcases preambleSearchOp_cases s with ⟨_, h⟩ | ⟨_, h⟩ | ⟨_, _, _, _, h⟩ <;> rw [h]
  · exact starve_frame _ s
  · exact .quiet rfl rfl
  · exact .quiet rfl rfl

theorem syncMatchOp_frame (s : State) : OpFrame s (syncMatchOp s) := by
  rcases syncMatchOp_cases s with ⟨_, h⟩ | ⟨_, h⟩ | ⟨_, h⟩ | ⟨_, _, _, _, h⟩ <;> rw [h]
  · exact starve_frame _ s
  · exact .quiet rfl rfl
  · exact .quiet rfl rfl
  · exact lockOn_frame _ _ _ _ _ s

theorem injectSearchOp_frame (s : State) : OpFrame s (injectSearchOp s) := by
  rcases injectSearchOp_cases s with ⟨_, h⟩ | ⟨_, h⟩ <;> rw [h]
  · exact starve_frame _ s
  · exact lockOn_frame _ _ _ _ _ s

theorem demodSymbolOp_frame (ph full : Phase) (s : State) : OpFrame s (demodSymbolOp ph full s) := by
  rcases demodSymbolOp_cases ph full s with ⟨_, h⟩ | ⟨_, _, h⟩ <;> rw [h]
  · exact starve_frame _ s
  · exact .quiet rfl rfl

theorem headerDecodeOp_frame (s : State) : OpFrame s (headerDecodeOp s) := by
  rcases headerDecodeOp_cases s with h | ⟨_, _, _, h⟩ | ⟨_, _, _, h⟩ | ⟨_, _, _, _, _, h⟩ <;> rw [h] <;> exact .quiet rfl rfl

theorem payloadBlockOp_frame (s : State) : OpFrame s (payloadBlockOp s) := by
  obtain ⟨t, r, ht, _, h⟩ := payloadBlockOp_cases s
  rw [h]
  rcases ht with rfl | rfl <;> exact .quiet rfl rfl

theorem crcCheckOp_frame (s : State) : OpFrame s (crcCheckOp s) := by
  rcases crcCheckOp_cases s with ⟨_, h⟩ | ⟨_, _, t, _, ht, h⟩ <;> rw [h]
  · exact .quiet rfl rfl
  · rcases ht with rfl | rfl <;> exact .quiet rfl rfl

/-- The one operation that pushes a record. -/
theorem emitFrameOp_frame (s : State) : OpFrame s (emitFrameOp s) := by
  rcases emitFrameOp_cases s with ⟨_, h⟩ | ⟨hroom, h⟩ <;> rw [h]
  · exact .quiet rfl rfl
  · exact ⟨rfl, .inr ⟨_, rfl, hroom, rfl⟩⟩

theorem coreStepOp_frame (s : State) : OpFrame s (coreStepOp s) := by
  unfold coreStepOp
  cases s.phase with
  | search =>
    dsimp only
    split
    · exact injectSearchOp_frame s
    · exact preambleSearchOp_frame s
  | sync => exact syncMatchOp_frame s
  | hdrDemod | payDemod => exact demodSymbolOp_frame _ _ s
  | hdrDecode => exact headerDecodeOp_frame s
  | payDecode => exact payloadBlockOp_frame s
  | crc => exact crcCheckOp_frame s
  | emit => exact emitFrameOp_frame s
  | idle | done | dewhiten => exact .quiet rfl rfl

theorem coreStepOp_inbox (s : State) : (coreStepOp s).inbox = s.inbox := by
  obtain ⟨_, _, _, _, hinbox, _⟩ := hostPart_eq_iff.mp (coreStepOp_frame s).host
  exact hinbox

/-- What an instruction does is a host transaction's effect, or leaves what the sequencer leaves. -/
theorem InstrEffect.host_or_frame {s t : State} (e : InstrEffect s t) : HostEffect s t ∨ OpFrame s t := by
  cases e with
  | host e => exact .inl e
  | coreStep => exact .inr (coreStepOp_frame s)
  | preambleSearch => exact .inr (preambleSearchOp_frame s)
  | syncMatch => exact .inr (syncMatchOp_frame s)
  | injectSearch => exact .inr (injectSearchOp_frame s)
  | demodSymbol ph full => exact .inr (demodSymbolOp_frame ph full s)
  | headerDecode => exact .inr (headerDecodeOp_frame s)
  | payloadBlock => exact .inr (payloadBlockOp_frame s)
  | crcCheck => exact .inr (crcCheckOp_frame s)
  | emitFrame => exact .inr (emitFrameOp_frame s)
  | endOfStream ph => exact .inr (endOfStream_frame ph s)
  | starve ph => exact .inr (starve_frame ph s)
  | lock c f n x a => exact .inr (lockOn_frame c f n x a s)
  | dewhiten | value | lfsrValue | syncFail | payloadSetup | headerAbort | raise => exact .inr (.quiet rfl rfl)

/-! ### What a host transaction writes -/

/-- The host's list and the parameters of 00_scope R11 are written by no transaction (logs 3, 15). -/
theorem HostEffect.inbox_inst {s t : State} (e : HostEffect s t) : t.inbox = s.inbox ∧ t.inst = s.inst := by
  cases e <;> exact ⟨rfl, rfl⟩

/-- The sample store is as it was, one entry longer after an accepted beat, or emptied by an accepted START or RESET (20_memory
R61). -/
theorem HostEffect.store {s t : State} (e : HostEffect s t) :
    (t.store = s.store ∧ t.avail = s.avail) ∨
    (running s = true ∧ s.eos = false ∧ t.avail = s.avail + 1 ∧ ∃ z, t.store = s.store ++ [z]) ∨
    (t.store = [] ∧ t.avail = 0 ∧ (ResetValues t ∨ (running s = false ∧ configOk s.csr = true ∧ t.phase = .search))) := by
  cases e with
  | beat b hrun heos | badBeat b hrun heos => exact .inr (.inl ⟨hrun, heos, rfl, _, rfl⟩)
  | start hidle hok => exact .inr (.inr ⟨rfl, rfl, .inr ⟨hidle, hok, rfl⟩⟩)
  | reset => exact .inr (.inr ⟨rfl, rfl, .inl (resetOp_resetValues s)⟩)
  | _ => exact .inl ⟨rfl, rfl⟩

/-- The RW registers change outside a run only, or by RESET (10_state R21). -/
theorem HostEffect.csr {s t : State} (e : HostEffect s t) : t.csr = s.csr ∨ running s = false ∨ ResetValues t := by
  cases e with
  | config c hidle => exact .inr (.inl hidle)
  | reset => exact .inr (.inr (resetOp_resetValues s))
  | _ => exact .inl rfl

/-- CFG is written by an accepted START or by RESET (10_state R48). -/
theorem HostEffect.cfg {s t : State} (e : HostEffect s t) :
    t.cfg = s.cfg ∨ (running s = false ∧ configOk s.csr = true ∧ t.cfg = freeze s.csr ∧ t.phase = .search) ∨ ResetValues t := by
  cases e with
  | start hidle hok => exact .inr (.inl ⟨hidle, hok, rfl, rfl⟩)
  | reset => exact .inr (.inr (resetOp_resetValues s))
  | _ => exact .inl rfl

/-- The FIFO loses its oldest record to a POP, or is emptied by RESET (48 R222). -/
theorem HostEffect.fifo {s t : State} (e : HostEffect s t) :
    t.fifo = s.fifo ∨ (∃ f, s.fifo = f :: t.fifo ∧ t.frameOut = frameWords f) ∨ ResetValues t := by
  cases e with
  | pop f rest hhead => exact .inr (.inl ⟨f, hhead, rfl⟩)
  | reset => exact .inr (.inr (resetOp_resetValues s))
  | _ => exact .inl rfl

/-- Settles O46: of the effects of an instruction, only the host's write what the statement names. -/
theorem storeAndConfigurationWriters : Obligations.StoreAndConfigurationWriters := by
  intro i s t hexec
  rcases (instrEffect_of_exec hexec).host_or_frame with e | hframe
  · exact ⟨e.store, e.csr, e.cfg⟩
  · obtain ⟨hstore, havail, hcsr, hcfg, _⟩ := hostPart_eq_iff.mp hframe.host
    exact ⟨.inl ⟨hstore, havail⟩, .inl hcsr, .inl hcfg⟩

/-- Settles O47: the host takes the oldest record, the sequencer appends one. -/
theorem fifoKeepsOrder : Obligations.FifoKeepsOrder := by
  intro i s t hexec
  rcases (instrEffect_of_exec hexec).host_or_frame with e | hframe
  · rcases e.fifo with hsame | hpop | hreset
    · exact .inl hsame
    · exact .inr (.inl hpop)
    · exact .inr (.inr (.inr hreset))
  · rcases hframe.fifo with hsame | hgain
    · exact .inl hsame
    · exact .inr (.inr (.inl hgain))

end Sys2Proof.Machine
end

section
/-! PROOFS. What a run's configuration guarantees (10_state R48, 48_host_commands_sequencer R220), and the ranges of what the front
end finds under it (41_frame_sync R121 to R134). -/

namespace Sys2Proof.Machine

/-! ### A frozen configuration -/

/-- What the operations of a run need of CFG. -/
structure CfgValid (g : Cfg) : Prop where
  bins_pos : 0 < g.bins
  bins_mod_four : g.bins % 4 = 0
  os_pos : 0 < g.os
  ns_eq : g.ns = g.os * g.bins
  wlen_eq : g.wlen = if g.inject then 1 else g.ns
  sfAppPay_pos : 0 < g.sfAppPay
  codingRate : 1 ≤ g.cr ∧ g.cr ≤ 4
  payloadLength_lt : g.payloadLength < 256
  nPre_ge : 4 ≤ g.nPre
  /-- an empty implicit frame in INJECT mode would have no symbol (48 R220) -/
  inject_nonempty : g.inject = true → g.implicit = true → g.payloadLength = 0 → g.hasCrc = true

theorem configOk_bounds {c : Csr} (h : configOk c = true) :
    (7 ≤ c.sf.toNat ∧ c.sf.toNat ≤ 12) ∧ (0 < c.bw.toNat ∧ 0 < c.fs.toNat ∧ c.fs.toNat % c.bw.toNat = 0) ∧
    (1 ≤ c.cr.toNat ∧ c.cr.toNat ≤ 4) ∧ 4 ≤ c.nPreamble.toNat ∧
    (c.mode.getLsbD 3 = true → c.mode.getLsbD 1 = true → c.payloadLen.toNat = 0 → c.mode.getLsbD 0 = true) := by
  have hzero : ∀ {w : Nat} (x : BitVec w), x = 0 ↔ x.toNat = 0 := fun x => by simp [← BitVec.toNat_inj]
  simp only [configOk, Bool.and_eq_true, decide_eq_true_eq, Bool.not_eq_true', Bool.and_eq_false_iff, decide_eq_false_iff_not,
    Bool.not_eq_false', ne_eq, hzero] at h
  obtain ⟨⟨⟨⟨⟨⟨⟨⟨⟨⟨hsf, hsf'⟩, hbw⟩, hfs⟩, hdvd⟩, hcr⟩, hcr'⟩, _⟩, hpre⟩, _⟩, hempty⟩ := h
  refine ⟨⟨hsf, hsf'⟩, ⟨by omega, by omega, hdvd⟩, ⟨hcr, hcr'⟩, hpre, fun hinj himp hlen => ?_⟩
  simpa only [hinj, himp, hlen, Bool.true_eq_false, not_true_eq_false, false_or] using hempty

theorem freeze_valid {c : Csr} (h : configOk c = true) : CfgValid (freeze c) := by
  obtain ⟨⟨hsf, _⟩, ⟨hbw, hfs, hdvd⟩, hcr, hpre, hempty⟩ := configOk_bounds h
  have hbins : (freeze c).bins = 4 * 2 ^ (c.sf.toNat - 2) := by
    change 2 ^ c.sf.toNat = _
    rw [show c.sf.toNat = 2 + (c.sf.toNat - 2) by omega, Nat.pow_add]
    simp
  have hldro : ((freeze c).ldro).toNat ≤ 1 := Bool.toNat_le _
  exact
    { bins_pos := Nat.two_pow_pos _
      bins_mod_four := by omega
      os_pos := Nat.div_pos (Nat.le_of_dvd hfs (Nat.dvd_of_mod_eq_zero hdvd)) hbw
      ns_eq := rfl
      wlen_eq := rfl
      sfAppPay_pos := by change 0 < c.sf.toNat - 2 * (freeze c).ldro.toNat; omega
      codingRate := hcr
      payloadLength_lt := c.payloadLen.isLt
      nPre_ge := hpre
      inject_nonempty := hempty }

theorem CfgValid.ns_pos {g : Cfg} (h : CfgValid g) : 0 < g.ns := by
  rw [h.ns_eq]
  exact Nat.mul_pos h.os_pos h.bins_pos

theorem CfgValid.wlen_pos {g : Cfg} (h : CfgValid g) : 0 < g.wlen := by
  rw [h.wlen_eq]
  split
  · exact Nat.one_pos
  · exact h.ns_pos

/-! ### What PHASE SEARCH finds -/

theorem le_coarseAlign (n os q b2 : Nat) : q ≤ coarseAlign n os q b2 := Nat.le_add_right q _

section
variable {R C : Type} {A : Arith R C} {cfg : Cfg} {rd : Nat → Option (List Cx)}

/-- Fine timing moves an index back by at most half a chip (41 R127). -/
theorem neg_half_le_of_fineTiming {q2 : Nat} {cf : R} {d : Int} (h : fineTiming A cfg rd q2 cf = some d) :
    -((cfg.os / 2 : Nat) : Int) ≤ d := by
  simp only [fineTiming] at h
  split at h
  · cases h
  next ms _ =>
    obtain rfl := Option.some.inj h
    omega

/-- A candidate lies at most half a chip before the index examined. -/
theorem le_of_examine_found {q : Nat} {q2 : Int} {cf : R} {snr : Ext R} (h : examine A cfg rd q = some (some (q2, cf, snr))) :
    (q : Int) ≤ q2 + (cfg.os / 2 : Nat) := by
  simp only [examine] at h
  split at h
  · cases h
  · split at h
    · split at h
      · cases h
      next yc _ =>
        split at h
        · cases h
        next d hd =>
          have hback := neg_half_le_of_fineTiming hd
          simp only [Option.some.injEq, Prod.mk.injEq] at h
          obtain ⟨rfl, _⟩ := h
          have halign := le_coarseAlign cfg.bins cfg.os q (peak A (sumPowers A cfg.bins (yc.map (powers A))))
          omega
    · cases h

theorem le_of_searchFrom_found {p : Nat} {q2 : Int} {cf : R} {snr : Ext R} {ws : List Nat}
    (h : searchFrom A cfg rd p ws = some (some (q2, cf, snr))) : (p : Int) ≤ q2 + (cfg.os / 2 : Nat) := by
  induction ws with
  | nil => cases h
  | cons w ws ih =>
    simp only [searchFrom] at h
    split at h
    · cases h
    next f hf =>
      obtain rfl := Option.some.inj (Option.some.inj h)
      have := le_of_examine_found hf
      push_cast at this
      have : (0 : Int) ≤ w * cfg.ns := by positivity
      omega
    · exact ih h

/-! ### Where PHASE SYNC locks -/

theorem findDownIn_mem {q2 : Int} {cf : R} {ws : List Nat} {w : Nat} (h : findDownIn A cfg rd q2 cf ws = some (some w)) :
    w ∈ ws := by
  induction ws with
  | nil => cases h
  | cons v ws ih =>
    simp only [findDownIn] at h
    split at h
    · split at h
      · cases h
        exact List.mem_cons_self
      · exact List.mem_cons_of_mem _ (ih h)
    · cases h

/-- A lock comes from a down-chirp at one of the windows `n_pre - 2 ..` and from the integer CFO of a measured bin. -/
theorem syncAttempt_locked {p : Nat} {q2 : Int} {cf : R} {c : Int} {sto start : Nat}
    (h : syncAttempt A cfg rd p q2 cf = some (.locked c sto start)) :
    ∃ (wd : Nat) (v : Int), cfg.nPre - 2 ≤ wd ∧ c = cfoIntOf (sgnN cfg.bins v) ∧
      start = hdrStartOf cfg (q2 + (wd * cfg.ns : Nat)) c := by
  simp only [syncAttempt] at h
  split at h
  · cases h
  · cases h
  next wd hwd =>
    have hmem := findDownIn_mem hwd
    split at h
    · split at h
      · split at h
        · cases h
        · simp only [Option.some.injEq, SyncResult.locked.injEq] at h
          obtain ⟨rfl, _, rfl⟩ := h
          refine ⟨wd, _, ?_, rfl, rfl⟩
          obtain ⟨i, _, rfl⟩ := List.mem_map.mp hmem
          exact Nat.le_add_right _ i
      · cases h
    · cases h

end

/-- The header starts behind the cursor: it is at least four symbols from the candidate, less a quarter symbol of CFO and half a
chip of timing (41 R134). -/
theorem lt_hdrStartOf {g : Cfg} (hg : CfgValid g) {p wd : Nat} {q2 v : Int} (hq : (p : Int) ≤ q2 + (g.os / 2 : Nat))
    (hwd : g.nPre - 2 ≤ wd) : p < hdrStartOf g (q2 + (wd * g.ns : Nat)) (cfoIntOf (sgnN g.bins v)) := by
  obtain ⟨hlow, hhigh⟩ := sgnN_range hg.bins_pos v
  obtain ⟨hcfo, _⟩ := cfoIntOf_range hg.bins_mod_four hlow hhigh
  have hpre := hg.nPre_ge
  have hos := hg.os_pos
  have hbins := Nat.le_of_dvd hg.bins_pos (Nat.dvd_of_mod_eq_zero hg.bins_mod_four)
  have hns : g.ns = 4 * (g.os * (g.bins / 4)) := by
    rw [hg.ns_eq, Nat.mul_left_comm, Nat.mul_div_cancel' (Nat.dvd_of_mod_eq_zero hg.bins_mod_four)]
  have hquarter : g.os ≤ g.os * (g.bins / 4) := Nat.le_mul_of_pos_right _ (by omega)
  have hshift : -((g.os * (g.bins / 4) : Nat) : Int) ≤ cfoIntOf (sgnN g.bins v) * g.os := by
    have := Int.mul_le_mul_of_nonneg_right hcfo (Int.natCast_nonneg g.os)
    push_cast at this ⊢
    rw [mul_comm (g.os : Int)]
    linarith
  have hwindow : 2 * g.ns ≤ wd * g.ns := Nat.mul_le_mul_right _ (by omega)
  rw [hdrStartOf]
  generalize cfoIntOf (sgnN g.bins v) * (g.os : Int) = shift at hshift ⊢
  omega

end Sys2Proof.Machine
end

section
/-! PROOFS. The invariant of Safety.lean along a run. `RunInv` is the part of it that holds whatever the phase; an operation keeps
that part field by field, and the phase's own part is put back once for the states without a lock and once for the locked ones. -/

namespace Sys2Proof.Machine

/-! ### The part that does not depend on PHASE -/

/-- `CoreInv` of a run without what depends on `PHASE`, on the lock and on the cursors. -/
structure RunInv (s : State) : Prop where
  memory : Memory.wf s = true
  bins : s.cfg.inject = true → ∀ z ∈ s.store, binOf z < s.cfg.bins
  err : s.err &&& 0xFFFFF001#32 = 0
  lastErr : s.lastErr.toNat ≤ 11
  cfg : ∃ c, configOk c = true ∧ s.cfg = freeze c
  symbuf : s.symbuf.length ≤ s.blklen ∧ s.blklen ≤ 8
  symbolBins : ∀ k ∈ s.symbuf, k < s.cfg.bins
  nib : s.nib.length ≤ s.need ∧ s.need ≤ 514
  hamUnc : s.hamUnc ≤ s.nib.length
  valid : s.hdrf.valid = true → 1 ≤ s.hdrf.codingRate.toNat ∧ s.hdrf.codingRate.toNat ≤ 4
  fifo : s.fifo.length ≤ s.inst.fifoDepth ∧ 1 ≤ s.inst.fifoDepth
  frames : ∀ f ∈ s.fifo, FrameWf f

theorem CoreInv.run {s : State} (h : CoreInv s) (hrun : running s = true) : RunInv s := { h with cfg := h.cfg hrun }

theorem RunInv.cfgValid {s : State} (h : RunInv s) : CfgValid s.cfg := by
  obtain ⟨c, hc, hcfg⟩ := h.cfg
  exact hcfg ▸ freeze_valid hc

/-- Between frames the phase asks for nothing more. -/
theorem RunInv.between {s : State} (h : RunInv s) (hlocked : s.sync.locked = false) (hph : s.phase = .search ∨ s.phase = .done) :
    CoreInv s :=
  { h with
    cfg := fun _ => h.cfg
    locked := by rw [hlocked]; rcases hph with hph | hph <;> rw [hph] <;> rfl
    cursor := (retire_unlocked hlocked).ge
    grid := fun hl => absurd (hlocked.symm.trans hl) (by decide)
    phase := by rcases hph with hph | hph <;> simp only [PhaseWf, hph] }

/-- In a frame SYMPOS is on the grid, not before the cursor. -/
theorem RunInv.inFrame {s : State} (h : RunInv s) (hlocked : s.sync.locked = true) (hframed : s.phase.framed = true)
    (hcursor : s.p ≤ s.sympos) (hgrid : s.sympos = s.hdrStart + s.diag.length * s.cfg.wlen) (hph : PhaseWf s) : CoreInv s :=
  { h with
    cfg := fun _ => h.cfg
    locked := hlocked.trans hframed.symm
    cursor := (retire_locked hlocked).symm ▸ hcursor
    grid := fun _ => hgrid
    phase := hph }

theorem running_of_framed {s : State} (h : s.phase.framed = true) : running s = true := by
  unfold running
  cases hph : s.phase with
  | idle | done => rw [hph] at h; cases h
  | _ => rfl

/-- In the phases of a frame the lock is set, so `RETIRE` is SYMPOS. -/
theorem CoreInv.of_framed {s : State} (h : CoreInv s) (hframed : s.phase.framed = true) :
    RunInv s ∧ s.sync.locked = true ∧ s.p ≤ s.sympos ∧ s.sympos = s.hdrStart + s.diag.length * s.cfg.wlen := by
  have hlocked := h.locked.trans hframed
  exact ⟨h.run (running_of_framed hframed), hlocked, retire_locked hlocked ▸ h.cursor, h.grid hlocked⟩

/-! ### The error record -/

/-- The kinds' bits are bits 1 to 11 of ERR (60_exceptions R250). -/
theorem raise_reservedBits (k : ErrKind) {s : State} (h : s.err &&& 0xFFFFF001#32 = 0) :
    (raise k s).err &&& 0xFFFFF001#32 = 0 := by
  have hbit : (1#32 <<< k.code) &&& 0xFFFFF001#32 = 0 := by cases k <;> decide
  rw [raise_err, BitVec.and_or_distrib_right, h, hbit]
  decide

theorem raise_lastErr_le (k : ErrKind) (s : State) : (raise k s).lastErr.toNat ≤ 11 := by
  rw [raise_lastErr]
  cases k <;> decide

theorem RunInv.raised {s : State} (h : RunInv s) (k : ErrKind) : RunInv (raise k s) :=
  { h with err := raise_reservedBits k h.err, lastErr := raise_lastErr_le k s }

theorem CoreInv.raised {s : State} (h : CoreInv s) (k : ErrKind) : CoreInv (raise k s) :=
  { h with err := raise_reservedBits k h.err, lastErr := raise_lastErr_le k s }

/-! ### Ends of an attempt -/

/-- A header that is not marked valid is no promise. -/
theorem RunInv.invalidHeader {s : State} (h : RunInv s) {f : Hdrf} (hf : f.valid = false) : RunInv { s with hdrf := f } :=
  { h with valid := fun hv => absurd (hf.symm.trans hv) (by decide) }

theorem RunInv.syncFailed_coreInv {s : State} (h : RunInv s) : CoreInv (syncFailed s) :=
  RunInv.between { h with } rfl (nextPhase_cases _)

theorem RunInv.headerAborted_coreInv {s : State} (h : RunInv s) : CoreInv (headerAborted s) :=
  RunInv.between { h with symbuf := ⟨Nat.zero_le _, h.symbuf.2⟩, symbolBins := fun _ hk => absurd hk List.not_mem_nil } rfl
    (nextPhase_cases _)

theorem starve_coreInv {s : State} (h : CoreInv s) (hrun : running s = true) (ph : Phase) : CoreInv (starve ph s) := by
  have hr := h.run hrun
  rcases starve_cases ph s with hs | ⟨_, _, hs⟩ | ⟨_, _, hs⟩ <;> rw [hs]
  · exact h
  · exact RunInv.between { hr with } rfl (.inr rfl)
  · have hdropped := (hr.raised .insufficientSamples).invalidHeader (f := { s.hdrf with valid := false }) rfl
    exact RunInv.between { hdropped with } rfl (.inr rfl)

/-! ### The start of a frame -/

theorem needOf_le {len : Nat} (hlen : len < 256) (crc : Bool) : needOf len crc ≤ 514 := by
  cases crc <;> simp [needOf] <;> omega

theorem needOf_eq_zero {len : Nat} {crc : Bool} (h : needOf len crc = 0) : len = 0 ∧ crc = false := by
  cases crc <;> simp [needOf] at h ⊢
  omega

/-- No nibbles, no blocks (30_encoding R89). -/
theorem nblkOf_zero (sfAppPay : Nat) : nblkOf 0 sfAppPay = 0 := by
  unfold nblkOf
  rcases Nat.eq_zero_or_pos sfAppPay with rfl | hpos
  · rfl
  · exact Nat.div_eq_of_lt (by omega)

theorem nsymOf_eq (s : State) (nblk cr : Nat) : nsymOf s.cfg.implicit nblk cr = headerSymbols s + nblk * (cr + 4) := rfl

/-- `payload_setup` (48 R226) once the header is known and its symbols are demodulated. -/
theorem RunInv.setupPayload_coreInv {s : State} (h : RunInv s) (hlocked : s.sync.locked = true)
    (hcr : 1 ≤ s.hdrf.codingRate.toNat ∧ s.hdrf.codingRate.toNat ≤ 4) (hok : s.hdrf.headerCrcOk = true)
    (hcursor : s.p ≤ s.sympos) (hgrid : s.sympos = s.hdrStart + s.diag.length * s.cfg.wlen)
    (hdiag : s.diag.length = headerSymbols s)
    (hempty : needOf s.hdrf.payloadLength.toNat s.hdrf.hasCrc = 0 → s.p < s.sympos) : CoreInv (setupPayload s) := by
  have hneed := needOf_le s.hdrf.payloadLength.isLt s.hdrf.hasCrc
  have hrun : RunInv (setupPayload s) :=
    { h with
      symbuf := ⟨Nat.zero_le _, by simp; omega⟩
      symbolBins := fun _ hk => absurd hk List.not_mem_nil
      nib := ⟨Nat.zero_le _, hneed⟩
      hamUnc := Nat.zero_le _ }
  have hknown : HeaderKnown (setupPayload s) := ⟨hcr, hok, rfl⟩
  by_cases hzero : needOf s.hdrf.payloadLength.toNat s.hdrf.hasCrc = 0
  · have hph : (setupPayload s).phase = .dewhiten := if_pos hzero
    have hall : AllSymbolsDone (setupPayload s) := by
      simp only [AllSymbolsDone, nsymOf_eq, setupPayload_need, hzero, nblkOf_zero, Nat.zero_mul, Nat.add_zero]
      exact hdiag
    refine hrun.inFrame hlocked (by rw [hph]; rfl) hcursor hgrid ?_
    simp only [PhaseWf, hph]
    exact ⟨hknown, hzero.symm, hall, hempty hzero⟩
  · have hph : (setupPayload s).phase = .payDemod := if_neg hzero
    have hblocks : BlocksDone (setupPayload s) 0 :=
      ⟨0, (Nat.zero_mul _).symm, hdiag.trans (by rw [Nat.zero_mul]; rfl)⟩
    refine hrun.inFrame hlocked (by rw [hph]; rfl) hcursor hgrid ?_
    simp only [PhaseWf, hph]
    exact ⟨hknown, rfl, Nat.succ_pos _, Nat.pos_of_ne_zero hzero, hblocks⟩

/-- `lock` (48 R225) at or behind the cursor. -/
theorem RunInv.lockOn_coreInv {s : State} (h : RunInv s) (c : Int) (f : Rat) (n : Nat) (x : Ext Rat) {a : Nat} (ha : s.p ≤ a)
    (hbehind : s.cfg.inject = false → s.p < a) : CoreInv (lockOn c f n x a s) := by
  have hvalid := h.cfgValid
  have hregs : RunInv (lockRegs c f n x a s) :=
    { h with
      symbuf := ⟨Nat.zero_le _, h.symbuf.2⟩
      symbolBins := fun _ hk => absurd hk List.not_mem_nil
      nib := ⟨Nat.zero_le _, h.nib.2⟩
      hamUnc := Nat.zero_le _ }
  have hgrid : a = a + 0 * s.cfg.wlen := by omega
  rcases lockOn_cases c f n x a s with ⟨himp, hl⟩ | ⟨himp, hl⟩ <;> rw [hl]
  case inl =>
    have hcr : (BitVec.ofNat 3 s.cfg.cr).toNat = s.cfg.cr := Nat.mod_eq_of_lt (by have := hvalid.codingRate; omega)
    have hlen : (BitVec.ofNat 8 s.cfg.payloadLength).toNat = s.cfg.payloadLength := Nat.mod_eq_of_lt hvalid.payloadLength_lt
    have hrate : 1 ≤ (BitVec.ofNat 3 s.cfg.cr).toNat ∧ (BitVec.ofNat 3 s.cfg.cr).toNat ≤ 4 := hcr.symm ▸ hvalid.codingRate
    have hhdrf : RunInv { lockRegs c f n x a s with hdrf := implicitHdrf s.cfg } := { hregs with valid := fun _ => hrate }
    refine hhdrf.setupPayload_coreInv rfl hrate rfl ha hgrid (by simp [headerSymbols, himp]) fun hneed => ?_
    obtain ⟨hzero, hcrc⟩ := needOf_eq_zero hneed
    cases hinj : s.cfg.inject with
    | false => exact hbehind hinj
    | true =>
      have := hvalid.inject_nonempty hinj himp (hlen.symm.trans hzero)
      exact absurd (hcrc.symm.trans this) (by decide)
  case inr =>
    have hhdrf := hregs.invalidHeader (f := .reset) rfl
    refine RunInv.inFrame { hhdrf with symbuf := ⟨Nat.zero_le _, Nat.le_refl 8⟩ } rfl rfl ha hgrid ?_
    exact ⟨himp, rfl, by simp, rfl⟩

/-! ### PHASE SEARCH and SYNC -/

theorem preambleSearchOp_coreInv {s : State} (h : CoreInv s) (hph : s.phase = .search) (hinj : s.cfg.inject = false) :
    CoreInv (preambleSearchOp s) := by
  have hrun : running s = true := by simp [running, hph]
  have hr := h.run hrun
  rcases preambleSearchOp_cases s with ⟨_, hs⟩ | ⟨_, hs⟩ | ⟨q, cf, snr, hfound, hs⟩ <;> rw [hs]
  · exact starve_coreInv h hrun _
  · exact (hr.raised _).syncFailed_coreInv
  · have hunlocked : s.sync.locked = false := by rw [h.locked, hph]; rfl
    exact
      { h with
        cfg := fun _ => hr.cfg
        locked := hunlocked
        grid := fun hl => absurd (hunlocked.symm.trans hl) (by decide)
        phase := ⟨le_of_searchFrom_found hfound, hinj⟩ }

theorem injectSearchOp_coreInv {s : State} (h : CoreInv s) (hph : s.phase = .search) (hinj : s.cfg.inject = true) :
    CoreInv (injectSearchOp s) := by
  have hrun : running s = true := by simp [running, hph]
  rcases injectSearchOp_cases s with ⟨_, hs⟩ | ⟨_, hs⟩ <;> rw [hs]
  · exact starve_coreInv h hrun _
  · exact (h.run hrun).lockOn_coreInv _ _ _ _ (Nat.le_refl _) fun hno => absurd (hno.symm.trans hinj) (by decide)

theorem syncMatchOp_coreInv {s : State} (h : CoreInv s) (hph : s.phase = .sync) : CoreInv (syncMatchOp s) := by
  have hrun : running s = true := by simp [running, hph]
  have hr := h.run hrun
  rcases syncMatchOp_cases s with ⟨_, hs⟩ | ⟨_, hs⟩ | ⟨_, hs⟩ | ⟨c, sto, start, hlock, hs⟩ <;> rw [hs]
  · exact starve_coreInv h hrun _
  · exact (hr.raised _).syncFailed_coreInv
  · exact (hr.raised _).syncFailed_coreInv
  · have hcand := h.phase
    simp only [PhaseWf, hph] at hcand
    obtain ⟨wd, v, hwd, rfl, rfl⟩ := syncAttempt_locked hlock
    have hlt := lt_hdrStartOf hr.cfgValid hcand.1 hwd (v := v)
    exact hr.lockOn_coreInv _ _ _ _ hlt.le fun _ => hlt

/-! ### Demodulation -/

/-- A demodulated bin is below `N`: an injected one by the store's invariant, a peak by the length of the spectrum. -/
theorem demodWindow_lt {s : State} (h : RunInv s) (hlocked : s.sync.locked = true) {win : List Cx}
    (hwin : window s s.cfg.wlen s.sympos = some win) : (demodWindow s win).kHat < s.cfg.bins := by
  cases hinj : s.cfg.inject with
  | true =>
    have hwlen : s.cfg.wlen = 1 := by rw [h.cfgValid.wlen_eq, if_pos hinj]
    obtain ⟨havail, hlist⟩ := window_eq_some hwin
    have hhead : win.headD (Config.retiredSample s.sympos) = sampleAt s s.sympos := by rw [hlist, hwlen]; rfl
    have hentry : s.sympos < s.store.length := by rw [memory_wf_iff.mp h.memory]; omega
    simp only [demodWindow, hinj, ↓reduceIte, injectedDiag, hhead, sampleAt_live (retire_locked hlocked).le hentry]
    exact h.bins hinj _ (List.getElem_mem hentry)
  | false =>
    simp only [demodWindow, hinj, Bool.false_eq_true, ↓reduceIte, sampledDiag]
    have hlength : ∀ y, (intCorrect machineArith s.cfg.bins s.sync.cfoInt y).length = s.cfg.bins := by simp [intCorrect]
    have hne : ∀ y, intCorrect machineArith s.cfg.bins s.sync.cfoInt y ≠ [] := fun y =>
      List.ne_nil_of_length_pos (by rw [hlength]; exact h.cfgValid.bins_pos)
    exact (peak_lt machineArith (hne _)).trans_eq (hlength _)

/-- One symbol more, with room in the block. -/
theorem RunInv.symbol {s : State} (h : RunInv s) (hroom : s.symbuf.length < s.blklen) {d : Diag} (hd : d.kHat < s.cfg.bins)
    (pos : Nat) (ph : Phase) :
    RunInv { s with symbuf := s.symbuf ++ [d.kHat], diag := s.diag ++ [d], sympos := pos, phase := ph } :=
  { h with
    symbuf := ⟨by simpa using hroom, h.symbuf.2⟩
    symbolBins := fun k hk => by
      rcases List.mem_append.mp hk with hk | hk
      · exact h.symbolBins k hk
      · exact List.mem_singleton.mp hk ▸ hd }

/-- DEMOD_SYMBOL in a phase of a frame, up to what the next phase asks for. -/
theorem demodSymbolOp_coreInv {s : State} (h : CoreInv s) {full : Phase} (hframed : s.phase.framed = true)
    (hfull : full.framed = true) (hroom : s.symbuf.length < s.blklen)
    (hnext : ∀ d pos, s.p < pos →
      PhaseWf { s with
        symbuf := s.symbuf ++ [d.kHat]
        diag := s.diag ++ [d]
        sympos := pos
        phase := if s.symbuf.length + 1 = s.blklen then full else s.phase })
    (ph : Phase) : CoreInv (demodSymbolOp ph full s) := by
  obtain ⟨hr, hlocked, hcursor, hgrid⟩ := h.of_framed hframed
  rcases demodSymbolOp_cases ph full s with ⟨_, hs⟩ | ⟨win, hwin, hs⟩ <;> rw [hs]
  · exact starve_coreInv h (running_of_framed hframed) ph
  · have hpos := hr.cfgValid.wlen_pos
    have hbehind : s.p < s.sympos + s.cfg.wlen := by omega
    refine (hr.symbol hroom (demodWindow_lt hr hlocked hwin) _ _).inFrame hlocked ?_ hbehind.le ?_ (hnext _ _ hbehind)
    · show (if _ then full else s.phase).framed = true
      split
      · exact hfull
      · exact hframed
    · show s.sympos + s.cfg.wlen = s.hdrStart + (s.diag ++ [_]).length * s.cfg.wlen
      rw [List.length_append, List.length_singleton, Nat.succ_mul, hgrid]
      omega

theorem demodHeader_coreInv {s : State} (h : CoreInv s) (hph : s.phase = .hdrDemod) :
    CoreInv (demodSymbolOp .hdrDemod .hdrDecode s) := by
  have hwf := h.phase
  simp only [PhaseWf, hph] at hwf
  obtain ⟨himp, hblk, hroom, hdiag⟩ := hwf
  refine demodSymbolOp_coreInv h (by rw [hph]; rfl) rfl (hblk ▸ hroom) (fun d pos hpos => ?_) _
  by_cases hlast : s.symbuf.length + 1 = s.blklen
  · simp only [PhaseWf, hlast, ↓reduceIte, List.length_append, List.length_singleton]
    exact ⟨himp, hblk, hblk, by omega, hpos⟩
  · simp only [PhaseWf, hlast, ↓reduceIte, hph, List.length_append, List.length_singleton]
    exact ⟨himp, hblk, by omega, by omega⟩

theorem demodPayload_coreInv {s : State} (h : CoreInv s) (hph : s.phase = .payDemod) :
    CoreInv (demodSymbolOp .payDemod .payDecode s) := by
  have hwf := h.phase
  simp only [PhaseWf, hph] at hwf
  obtain ⟨hknown, hblk, hroom, hnib, t, hblocks, hdiag⟩ := hwf
  refine demodSymbolOp_coreInv h (by rw [hph]; rfl) rfl hroom (fun d pos hpos => ?_) _
  have hdiag' : (s.diag ++ [d]).length = headerSymbols s + t * (s.hdrf.codingRate.toNat + 4) + (s.symbuf.length + 1) := by
    rw [List.length_append, List.length_singleton, hdiag]
    omega
  by_cases hlast : s.symbuf.length + 1 = s.blklen
  · simp only [PhaseWf, hlast, ↓reduceIte]
    refine ⟨hknown, hblk, by simpa using hlast, hnib, ⟨t, hblocks, hlast ▸ hdiag'⟩, hpos⟩
  · simp only [PhaseWf, hlast, ↓reduceIte, hph]
    refine ⟨hknown, hblk, ?_, hnib, t, hblocks, hdiag'.trans ?_⟩
    · rw [List.length_append, List.length_singleton]
      omega
    · rw [List.length_append]
      rfl

/-! ### Decoding -/

theorem headerDecodeOp_coreInv {s : State} (h : CoreInv s) (hph : s.phase = .hdrDecode) : CoreInv (headerDecodeOp s) := by
  obtain ⟨hr, hlocked, hcursor, hgrid⟩ := h.of_framed (by rw [hph]; rfl)
  rcases headerDecodeOp_cases s with hs | ⟨_, _, _, hs⟩ | ⟨_, _, _, hs⟩ | ⟨len, cr, crc, hlow, hhigh, hs⟩ <;> rw [hs]
  · exact ((hr.invalidHeader rfl).raised _).headerAborted_coreInv
  · exact ((hr.invalidHeader rfl).raised _).headerAborted_coreInv
  · exact ((hr.invalidHeader rfl).raised _).headerAborted_coreInv
  · have hwf := h.phase
    simp only [PhaseWf, hph] at hwf
    obtain ⟨himp, _, _, hdiag, hbehind⟩ := hwf
    have hhdrf : RunInv { s with hdrf := ⟨len, cr, crc, true, true⟩ } := { hr with valid := fun _ => ⟨hlow, hhigh⟩ }
    exact hhdrf.setupPayload_coreInv hlocked ⟨hlow, hhigh⟩ rfl hcursor hgrid
      (by simpa [headerSymbols, himp] using hdiag) fun _ => hbehind

/-- The block that completes the nibbles is the last of `ceil(need / w)` (30_encoding R89). -/
theorem nblkOf_eq_succ {need w t : Nat} (hlow : t * w < need) (hhigh : need ≤ t * w + w) : nblkOf need w = t + 1 :=
  Nat.div_eq_of_lt_le (by rw [Nat.succ_mul]; omega) (by rw [Nat.succ_mul, Nat.succ_mul]; omega)

/-- A decoded block: the payload goes on, or its symbols are all there. -/
theorem CoreInv.blockDecoded {s : State} (h : CoreInv s) (hph : s.phase = .payDecode) {nib : List Nib} {unc : Nat}
    (hlength : nib.length = min s.need (s.nib.length + s.cfg.sfAppPay)) (hunc : unc ≤ nib.length) :
    CoreInv { s with
      nib := nib, hamUnc := unc, symbuf := [], phase := if nib.length < s.need then .payDemod else .dewhiten } := by
  obtain ⟨hr, hlocked, hcursor, hgrid⟩ := h.of_framed (by rw [hph]; rfl)
  have hwf := h.phase
  simp only [PhaseWf, hph] at hwf
  obtain ⟨hknown, hblk, _, hnib, ⟨t, hblocks, hdiag⟩, hbehind⟩ := hwf
  have hdiag' : s.diag.length = headerSymbols s + (t + 1) * (s.hdrf.codingRate.toNat + 4) := by
    rw [hdiag, hblk, Nat.succ_mul, Nat.add_assoc]
  have hrun : ∀ ph, RunInv { s with nib := nib, hamUnc := unc, symbuf := [], phase := ph } := fun ph =>
    { hr with
      symbuf := ⟨Nat.zero_le _, hr.symbuf.2⟩
      symbolBins := fun _ hk => absurd hk List.not_mem_nil
      nib := ⟨hlength.trans_le (Nat.min_le_left _ _), hr.nib.2⟩
      hamUnc := hunc }
  by_cases hmore : nib.length < s.need
  · rw [if_pos hmore]
    have hblocks' : nib.length = (t + 1) * s.cfg.sfAppPay := by rw [Nat.succ_mul]; omega
    exact (hrun _).inFrame hlocked rfl hcursor hgrid
      ⟨hknown, hblk, by simp only [List.length_nil]; omega, hmore, t + 1, hblocks', hdiag'⟩
  · rw [if_neg hmore]
    have hall : s.diag.length = nsymOf s.cfg.implicit (nblkOf s.need s.cfg.sfAppPay) s.hdrf.codingRate.toNat := by
      rw [nblkOf_eq_succ (hblocks ▸ hnib) (by omega), nsymOf_eq, hdiag']
    exact (hrun _).inFrame hlocked rfl hcursor hgrid ⟨hknown, by show nib.length = s.need; omega, hall, hbehind⟩

theorem payloadBlockOp_coreInv {s : State} (h : CoreInv s) (hph : s.phase = .payDecode) : CoreInv (payloadBlockOp s) := by
  obtain ⟨t, r, ht, hrows, hs⟩ := payloadBlockOp_cases s
  obtain ⟨hlength, _, hadded⟩ := payloadRows_spec s.hdrf.codingRate.toNat s.need
    (deinterleave s.cfg.sfAppPay (blockValues s (s.hdrf.codingRate.toNat + 4) s.cfg.sfAppPay)) s.nib s.hamUnc h.nib.1
  rw [← hrows, deinterleave_length] at hlength
  rw [← hrows] at hadded
  have hunc : r.2 ≤ r.1.length := by have := h.hamUnc; omega
  rw [hs]
  rcases ht with rfl | rfl
  · exact h.blockDecoded hph hlength hunc
  · exact (h.raised _).blockDecoded hph hlength hunc

theorem dewhitenOp_coreInv {s : State} (h : CoreInv s) (hph : s.phase = .dewhiten) : CoreInv (dewhitenOp s) := by
  obtain ⟨hr, hlocked, hcursor, hgrid⟩ := h.of_framed (by rw [hph]; rfl)
  have hwf := h.phase
  simp only [PhaseWf, hph] at hwf
  obtain ⟨hknown, _, hall, hbehind⟩ := hwf
  have hbytes : (dewhitenOp s).bytes.length = s.need / 2 := by simp [dewhitenOp, whiten_length, nib2byte_length]
  exact RunInv.inFrame { hr with } hlocked rfl hcursor hgrid ⟨hknown, hbytes, hall, hbehind⟩

/-- The CRC registers of a frame whose check is done. -/
theorem CoreInv.crcChecked {s : State} (h : CoreInv s) (hph : s.phase = .crc) (rx own : BitVec 16) {checked ok : Bool}
    (hchecked : checked = s.hdrf.hasCrc) (hok : s.hdrf.hasCrc = false → ok = true) :
    CoreInv { s with crcRx := rx, crcCalc := own, crcChecked := checked, crcOk := ok, phase := .emit } := by
  obtain ⟨hr, hlocked, hcursor, hgrid⟩ := h.of_framed (by rw [hph]; rfl)
  have hwf := h.phase
  simp only [PhaseWf, hph] at hwf
  obtain ⟨hknown, hbytes, hall, hbehind⟩ := hwf
  exact RunInv.inFrame { hr with } hlocked rfl hcursor hgrid ⟨hknown, hbytes, hall, hbehind, hchecked, hok⟩

theorem crcCheckOp_coreInv {s : State} (h : CoreInv s) (hph : s.phase = .crc) : CoreInv (crcCheckOp s) := by
  rcases crcCheckOp_cases s with ⟨hcrc, hs⟩ | ⟨rx, own, t, hcrc, ht, hs⟩ <;> rw [hs]
  · exact h.crcChecked hph 0 0 hcrc.symm fun _ => rfl
  · have hok : s.hdrf.hasCrc = false → decide (rx = own) = true := fun hno => absurd (hno.symm.trans hcrc) (by decide)
    rcases ht with rfl | rfl
    · exact h.crcChecked hph rx own hcrc.symm hok
    · exact (h.raised _).crcChecked hph rx own hcrc.symm hok

/-! ### The delivered frame -/

/-- What EMIT delivers is a Frame as 30_encoding R93 describes it. -/
theorem currentFrame_wf {s : State} (h : CoreInv s) (hph : s.phase = .emit) : FrameWf (currentFrame s) := by
  have hwf := h.phase
  simp only [PhaseWf, hph] at hwf
  obtain ⟨⟨hcr, hok, hneed⟩, hbytes, _, _, hchecked, hcrcOk⟩ := hwf
  exact
    { codingRate := hcr
      headerCrcOk := hok
      payloadBytes := by
        change s.bytes.length = _
        rw [hbytes, hneed, needOf, Nat.mul_div_cancel_left _ Nat.two_pos]
        rfl
      crcChecked := hchecked
      crcOk := hcrcOk
      hamUnc := h.hamUnc.trans (h.nib.1.trans h.nib.2) }

theorem emitFrameOp_coreInv {s : State} (h : CoreInv s) (hph : s.phase = .emit) : CoreInv (emitFrameOp s) := by
  obtain ⟨hr, _⟩ := h.of_framed (by rw [hph]; rfl)
  rcases emitFrameOp_cases s with ⟨_, hs⟩ | ⟨hroom, hs⟩ <;> rw [hs]
  · exact h
  · have hpushed : RunInv { s with fifo := s.fifo ++ [currentFrame s] } :=
      { hr with
        fifo := ⟨by simpa using hroom, hr.fifo.2⟩
        frames := fun f hf => by
          rcases List.mem_append.mp hf with hf | hf
          · exact hr.frames f hf
          · exact List.mem_singleton.mp hf ▸ currentFrame_wf h hph }
    have hheader := hpushed.invalidHeader (f := { s.hdrf with valid := false }) rfl
    exact RunInv.between { hheader with } rfl (nextPhase_cases _)

/-! ### Every step -/

theorem coreStepOp_coreInv {s : State} (h : CoreInv s) : CoreInv (coreStepOp s) := by
  cases hph : s.phase with
  | search =>
    cases hinj : s.cfg.inject with
    | true => exact coreStepOp_injectSearch hph hinj ▸ injectSearchOp_coreInv h hph hinj
    | false => exact coreStepOp_preambleSearch hph hinj ▸ preambleSearchOp_coreInv h hph hinj
  | sync => simpa only [coreStepOp, hph] using syncMatchOp_coreInv h hph
  | hdrDemod => simpa only [coreStepOp, hph] using demodHeader_coreInv h hph
  | hdrDecode => simpa only [coreStepOp, hph] using headerDecodeOp_coreInv h hph
  | payDemod => simpa only [coreStepOp, hph] using demodPayload_coreInv h hph
  | payDecode => simpa only [coreStepOp, hph] using payloadBlockOp_coreInv h hph
  | dewhiten => simpa only [coreStepOp, hph] using dewhitenOp_coreInv h hph
  | crc => simpa only [coreStepOp, hph] using crcCheckOp_coreInv h hph
  | emit => simpa only [coreStepOp, hph] using emitFrameOp_coreInv h hph
  | idle | done => simpa only [coreStepOp, hph] using h

/-- A beat's bin is taken modulo `N` (20_memory R79). -/
theorem binOf_beatEntry_lt {s : State} (hg : CfgValid s.cfg) (hinj : s.cfg.inject = true) (b : Beat) :
    binOf (beatEntry s b).1 < s.cfg.bins := by
  simp only [beatEntry, hinj, ↓reduceIte, binOf, Rat.num_natCast, Int.toNat_natCast]
  exact Nat.mod_lt _ hg.bins_pos

theorem CoreInv.appended {s : State} (h : CoreInv s) (hrun : running s = true) (b : Beat) :
    CoreInv (appendSample (beatEntry s b).1 s) :=
  { h with
    memory := appendSample_memory_wf _ h.memory
    bins := fun hinj z hz => by
      rcases List.mem_append.mp hz with hz | hz
      · exact h.bins hinj z hz
      · exact List.mem_singleton.mp hz ▸ binOf_beatEntry_lt (h.run hrun).cfgValid hinj b }

/-- A run begins with everything cleared but the frames that wait in the FIFO (48 R221). -/
theorem CoreInv.started {s : State} (h : CoreInv s) (hok : configOk s.csr = true) : CoreInv (startRun s) :=
  RunInv.between
    { memory := rfl
      bins := fun _ _ hz => absurd hz List.not_mem_nil
      err := BitVec.zero_and
      lastErr := Nat.zero_le _
      cfg := ⟨s.csr, hok, rfl⟩
      symbuf := ⟨Nat.le_refl _, Nat.zero_le _⟩
      symbolBins := fun _ hk => absurd hk List.not_mem_nil
      nib := ⟨Nat.le_refl _, Nat.zero_le _⟩
      hamUnc := Nat.zero_le _
      valid := fun hv => absurd hv Bool.false_ne_true
      fifo := h.fifo
      frames := h.frames } rfl (.inl rfl)

theorem CoreInv.reset {s : State} (h : CoreInv s) : CoreInv (resetOp s) where
  memory := rfl
  bins hinj := absurd hinj Bool.false_ne_true
  err := BitVec.zero_and
  lastErr := Nat.zero_le _
  cfg hrun := absurd hrun Bool.false_ne_true
  locked := rfl
  cursor := Nat.le_refl _
  grid hl := absurd hl Bool.false_ne_true
  symbuf := ⟨Nat.le_refl _, Nat.zero_le _⟩
  symbolBins _ hk := absurd hk List.not_mem_nil
  nib := ⟨Nat.le_refl _, Nat.zero_le _⟩
  hamUnc := Nat.le_refl _
  valid hv := absurd hv Bool.false_ne_true
  fifo := ⟨Nat.zero_le _, h.fifo.2⟩
  frames _ hf := absurd hf List.not_mem_nil
  phase := trivial

theorem HostEffect.coreInv {s t : State} (e : HostEffect s t) (h : CoreInv s) : CoreInv t := by
  cases e with
  | nothing => exact h
  | refused => exact h.raised _
  | badStart => exact h.raised _
  | badRead | badPop => exact { h.raised .commandInvalid with }
  | readback | config | endStream => exact { h with }
  | beat b hrun => exact h.appended hrun b
  | badBeat b hrun => exact (h.appended hrun b).raised _
  | start _ hok => exact h.started hok
  | reset => exact h.reset
  | pop f rest hhead =>
    have hlength : rest.length ≤ s.fifo.length := by rw [hhead]; exact Nat.le_succ _
    exact
      { h with
        fifo := ⟨hlength.trans h.fifo.1, h.fifo.2⟩
        frames := fun g hg => h.frames g (hhead ▸ List.mem_cons_of_mem f hg) }

/-- A move of an agent keeps the invariant of the CORE, and does not write the host's list. -/
theorem agentMove_coreInv {i : Instr} {s t : State} (hmove : i.isAgentMove = true) (hexec : exec i s = .next t) (h : CoreInv s) :
    CoreInv t ∧ t.inbox = s.inbox := by
  rcases exec_agentMove hmove s with ⟨_, hcore⟩ | ⟨u, hhost, e⟩
  · obtain rfl := Host.Outcome.next.inj (hcore.symm.trans hexec)
    exact ⟨coreStepOp_coreInv h, coreStepOp_inbox s⟩
  · obtain rfl := Host.Outcome.next.inj (hhost.symm.trans hexec)
    exact ⟨e.coreInv h, e.inbox_inst.1⟩

/-- A list of moves of the agents stays one as packets are taken from it. -/
theorem AgentInbox.mono {s t : State} (h : AgentInbox s) (hsub : ∀ pkt ∈ t.inbox, pkt ∈ s.inbox) : AgentInbox t :=
  fun pkt hpkt => h pkt (hsub pkt hpkt)

/-- Settles O7: a step is a CORE step, or the move of the oldest packet, taken from the list. -/
theorem stepKeepsInv : Obligations.StepKeepsInv := by
  rintro s t ⟨hagents, hcore⟩ hstep
  rcases step_cases hstep with rfl | ⟨pkt, rest, i, hin, hdec, hexec⟩
  · exact ⟨hagents.mono fun _ hp => coreStepOp_inbox s ▸ hp, coreStepOp_coreInv hcore⟩
  · have hmove : i.isAgentMove = true := hagents pkt (hin ▸ List.mem_cons_self) i hdec
    have htaken : CoreInv { s with inbox := rest } := { hcore with }
    obtain ⟨hcore', hinbox⟩ : CoreInv t ∧ t.inbox = rest := agentMove_coreInv hmove hexec htaken
    exact ⟨hagents.mono fun q hq => hin ▸ List.mem_cons_of_mem pkt (hinbox ▸ hq), hcore'⟩

end Sys2Proof.Machine
end

section
/-! PROOFS. Packets (30_encoding R95, R96, R99; 20_memory R66; log 1): words and beats as bytes, the code tables both ways, and
the decoder as the inverse of the encoder. -/

namespace Sys2Proof

/-! ### Words and beats as bytes -/

/-- Two bit vectors put side by side, as a sum. -/
theorem toNat_append_eq {m n : Nat} (x : BitVec m) (y : BitVec n) : (x ++ y).toNat = 2 ^ n * x.toNat + y.toNat := by
  rw [BitVec.toNat_append, ← Nat.shiftLeft_add_eq_or_of_lt y.isLt, Nat.shiftLeft_eq, Nat.mul_comm]

/-- Byte `k / 8` of a word, as a number. -/
theorem toNat_byteField {w : Nat} (v : BitVec w) (k : Nat) : (v.extractLsb' k 8).toNat = v.toNat / 2 ^ k % 2 ^ 8 := by
  rw [BitVec.extractLsb'_toNat, Nat.shiftRight_eq_div_pow]

theorem toNat_ofLe32 (b0 b1 b2 b3 : Byte) :
    (ofLe32 b0 b1 b2 b3).toNat = b0.toNat + 2 ^ 8 * b1.toNat + 2 ^ 16 * b2.toNat + 2 ^ 24 * b3.toNat := by
  simp only [ofLe32, toNat_append_eq]
  omega

theorem toNat_ofLe64 (b0 b1 b2 b3 b4 b5 b6 b7 : Byte) :
    (ofLe64 b0 b1 b2 b3 b4 b5 b6 b7).toNat = b0.toNat + 2 ^ 8 * b1.toNat + 2 ^ 16 * b2.toNat + 2 ^ 24 * b3.toNat
      + 2 ^ 32 * b4.toNat + 2 ^ 40 * b5.toNat + 2 ^ 48 * b6.toNat + 2 ^ 56 * b7.toNat := by
  simp only [ofLe64, toNat_append_eq]
  omega

/-- A list of bytes is told by their numbers. -/
theorem bytes_ext {l m : List Byte} (h : l.map BitVec.toNat = m.map BitVec.toNat) : l = m :=
  List.map_injective_iff.mpr (fun _ _ => BitVec.eq_of_toNat_eq) h

/-- The four bytes of a word are the word (least significant first). -/
theorem ofLe32_byteFields (v : Word32) :
    ofLe32 (v.extractLsb' 0 8) (v.extractLsb' 8 8) (v.extractLsb' 16 8) (v.extractLsb' 24 8) = v := by
  apply BitVec.eq_of_toNat_eq
  have hv := v.isLt
  simp only [toNat_ofLe32, toNat_byteField]
  omega

theorem le32_ofLe32 (b0 b1 b2 b3 : Byte) : le32 (ofLe32 b0 b1 b2 b3) = [b0, b1, b2, b3] := by
  have h0 := b0.isLt
  have h1 := b1.isLt
  have h2 := b2.isLt
  have h3 := b3.isLt
  apply bytes_ext
  simp only [le32, List.map_cons, List.map_nil, toNat_byteField, toNat_ofLe32, List.cons.injEq, and_true]
  omega

/-- The eight bytes of a beat are the beat (20_memory R66). -/
theorem ofLe64_byteFields (b : Beat) :
    ofLe64 (b.extractLsb' 0 8) (b.extractLsb' 8 8) (b.extractLsb' 16 8) (b.extractLsb' 24 8)
      (b.extractLsb' 32 8) (b.extractLsb' 40 8) (b.extractLsb' 48 8) (b.extractLsb' 56 8) = b := by
  apply BitVec.eq_of_toNat_eq
  have hb := b.isLt
  simp only [toNat_ofLe64, toNat_byteField]
  omega

theorem le64_ofLe64 (b0 b1 b2 b3 b4 b5 b6 b7 : Byte) :
    le64 (ofLe64 b0 b1 b2 b3 b4 b5 b6 b7) = [b0, b1, b2, b3, b4, b5, b6, b7] := by
  have h0 := b0.isLt
  have h1 := b1.isLt
  have h2 := b2.isLt
  have h3 := b3.isLt
  have h4 := b4.isLt
  have h5 := b5.isLt
  have h6 := b6.isLt
  have h7 := b7.isLt
  apply bytes_ext
  simp only [le64, List.map_cons, List.map_nil, toNat_byteField, toNat_ofLe64, List.cons.injEq, and_true]
  omega

/-! ### The code tables -/

/-- The fields of a word made of a command code and ignored bits (30_encoding R96). -/
theorem commandFields_append (c : BitVec 4) (ign : BitVec 28) :
    ((ign ++ c : Word32).extractLsb' 0 4 = c) ∧ ((ign ++ c : Word32).extractLsb' 4 28 = ign) :=
  ⟨BitVec.extractLsb'_append_eq_right, BitVec.extractLsb'_append_eq_left⟩

/-- A word written to CTRL is its ignored bits above its code. -/
theorem append_commandFields (v : Word32) : (v.extractLsb' 4 28 ++ v.extractLsb' 0 4 : Word32) = v :=
  (BitVec.extractLsb'_append_extractLsb'_eq_extractLsb' rfl).trans BitVec.extractLsb'_eq_self

theorem byte_of_toNat {c : Byte} {n : Nat} (h : c.toNat = n) : c = BitVec.ofNat 8 n := by
  rw [← h, BitVec.ofNat_toNat, BitVec.setWidth_eq]

/-! ### What the decoder answers -/

/-- If the answer is an instruction, it is well formed and `p` is its packet. -/
def Decoded.Packs (p : Packet) (d : Decoded) : Prop := ∀ i, d = .ok i → i.wellFormed = true ∧ encode i = p

theorem Decoded.Packs.ok {p : Packet} {i : Instr} (hwf : i.wellFormed = true) (henc : encode i = p) : (Decoded.ok i).Packs p := by
  rintro _ ⟨⟩
  exact ⟨hwf, henc⟩

theorem Decoded.Packs.malformed {p : Packet} : Decoded.malformed.Packs p := fun _ h => nomatch h

theorem Decoded.Packs.noRow {p : Packet} {kind code : Byte} : (Decoded.noRow kind code).Packs p := fun _ h => nomatch h

/-- A row named by the number of its code. -/
theorem Decoded.Packs.code {kind c : Byte} {n : Nat} {i : Instr} (hc : c.toNat = n) (hwf : i.wellFormed = true)
    (henc : encode i = [kind, BitVec.ofNat 8 n]) : (Decoded.ok i).Packs [kind, c] :=
  .ok hwf (byte_of_toNat hc ▸ henc)

/-- Phase codes (30_encoding R97). -/
theorem decodePhase_packs (c : Byte) : (decodePhase c).Packs [7, c] := by
  unfold decodePhase
  split
  case h_12 => exact .noRow
  all_goals
    rename_i hc
    exact .code hc rfl rfl

/-- Function keys (30_encoding R99). -/
theorem decodeFn_packs (c : Byte) : (decodeFn c).Packs [11, c] := by
  unfold decodeFn
  split
  case h_54 => exact .noRow
  all_goals
    rename_i hc
    exact .code hc rfl rfl

/-- Hamming code indices (43 R171). -/
theorem decodeHam_packs (c : Byte) : (decodeHam c).Packs [12, c] := by
  unfold decodeHam
  split
  case h_5 => exact .noRow
  all_goals
    rename_i hc
    exact .code hc rfl rfl

/-- Words written to CTRL (30_encoding R96). -/
theorem decodeCommand_packs (v : Word32) : (Decoded.ok (decodeCommand v)).Packs (5 :: le32 v) := by
  obtain ⟨hwf, henc⟩ : (decodeCommand v).wellFormed = true ∧
      encode (decodeCommand v) = encodeCommand (v.extractLsb' 0 4) (v.extractLsb' 4 28) := by
    unfold decodeCommand
    generalize v.extractLsb' 0 4 = c
    obtain ⟨⟨n, hn⟩⟩ := c
    interval_cases n <;> exact ⟨rfl, rfl⟩
  refine .ok hwf ?_
  rw [henc, encodeCommand, append_commandFields]

theorem decodeCsr_of_unmapped {n : Byte} (h : 0x20 ≤ n.toNat) (a : CsrAccess) : decodeCsr n a = .csrUnmapped n a := by
  unfold decodeCsr
  split
  case h_33 => rfl
  all_goals omega

/-- Register numbers (10_state R45). -/
theorem decodeCsr_packs (n : Byte) (a : CsrAccess) : (Decoded.ok (decodeCsr n a)).Packs (encodeCsr n a) := by
  by_cases hn : 0x20 ≤ n.toNat
  · rw [decodeCsr_of_unmapped hn]
    exact .ok (decide_eq_true hn) rfl
  · obtain ⟨m, hm⟩ : ∃ m, n.toNat = m := ⟨_, rfl⟩
    obtain rfl := byte_of_toNat hm
    rw [hm] at hn
    clear hm
    interval_cases m <;> exact .ok rfl rfl

/-! ### Decoding a packet -/

theorem decode_command (v0 v1 v2 v3 : Byte) : decode [5, v0, v1, v2, v3] = .ok (decodeCommand (ofLe32 v0 v1 v2 v3)) := rfl

theorem decode_read (n a : Byte) : decode [6, n, a] = if a = 0 then .ok (decodeCsr n .rd) else .malformed := rfl

theorem decode_write (n a v0 v1 v2 v3 : Byte) :
    decode [6, n, a, v0, v1, v2, v3] = if a = 1 then .ok (decodeCsr n (.wr (ofLe32 v0 v1 v2 v3))) else .malformed := rfl

theorem decode_encodeCommand (c : BitVec 4) (ign : BitVec 28) :
    decode (encodeCommand c ign) = .ok (decodeCommand (ign ++ c)) := by
  rw [encodeCommand, le32, decode_command, ofLe32_byteFields]

theorem decode_encodeCsr (n : Byte) (a : CsrAccess) : decode (encodeCsr n a) = .ok (decodeCsr n a) := by
  cases a with
  | rd => rw [encodeCsr, decode_read, if_pos rfl]
  | wr v => rw [encodeCsr, le32, decode_write, if_pos rfl, ofLe32_byteFields]

/-- Settles O1: by the format of the row, whose packet is decoded through the same table. -/
theorem decodeInvertsEncode : Obligations.DecodeInvertsEncode := by
  intro i hwf
  cases i with
  | csrW n v => exact congrArg (fun v => Decoded.ok (.csrW n v)) (ofLe32_byteFields v)
  | push b => exact congrArg (fun b => Decoded.ok (.push b)) (ofLe64_byteFields b)
  | pushsym b => exact congrArg (fun b => Decoded.ok (.pushsym b)) (ofLe64_byteFields b)
  | nop ign | start ign | eos ign | pop ign | cmdReserved4 ign | cmdReserved5 ign | cmdReserved6 ign | cmdReserved7 ign
  | cmdReserved8 ign | cmdReserved9 ign | cmdReserved10 ign | cmdReserved11 ign | cmdReserved12 ign | cmdReserved13 ign
  | cmdReserved14 ign | reset ign =>
    simp [encode, decode_encodeCommand, decodeCommand, commandFields_append]
  | csrUnmapped n a => rw [encode, decode_encodeCsr, decodeCsr_of_unmapped (of_decide_eq_true hwf)]
  | csrCtrl a | csrStatus a | csrErr a | csrLastErr a | csrSf a | csrBw a | csrFs a | csrCr a | csrSyncWord a | csrMode a
  | csrPayloadLen a | csrLdroMode a | csrNPreamble a | csrSearchWin a | csrCfoMax a | csrFrameLimit a | csrAttemptLimit a
  | csrSyncCfoInt a | csrSyncCfoFrac a | csrSyncSto a | csrSyncSnrDb a | csrHdrStartLo a | csrHdrStartHi a | csrHdr a
  | csrPosLo a | csrPosHi a | csrAvailLo a | csrAvailHi a | csrFrameCount a | csrNotfoundCount a | csrAbortCount a
  | csrFrameLevel a =>
    exact decode_encodeCsr _ a
  | _ => rfl

/-! ### Every form of packet

One lemma for each kind byte: the operands it takes, and that any other number of operands is malformed. -/

theorem decode_csrW_packs : ∀ ops : List Byte, (decode (0 :: ops)).Packs (0 :: ops)
  | [n, v0, v1, v2, v3] => .ok rfl (congrArg (0 :: n :: ·) (le32_ofLe32 v0 v1 v2 v3))
  | [] | [_] | [_, _] | [_, _, _] | [_, _, _, _] | _ :: _ :: _ :: _ :: _ :: _ :: _ => .malformed

theorem decode_csrR_packs : ∀ ops : List Byte, (decode (1 :: ops)).Packs (1 :: ops)
  | [_] => .ok rfl rfl
  | [] | _ :: _ :: _ => .malformed

theorem decode_push_packs : ∀ ops : List Byte, (decode (2 :: ops)).Packs (2 :: ops)
  | [b0, b1, b2, b3, b4, b5, b6, b7] => .ok rfl (congrArg (2 :: ·) (le64_ofLe64 b0 b1 b2 b3 b4 b5 b6 b7))
  | [] | [_] | [_, _] | [_, _, _] | [_, _, _, _] | [_, _, _, _, _] | [_, _, _, _, _, _] | [_, _, _, _, _, _, _]
  | _ :: _ :: _ :: _ :: _ :: _ :: _ :: _ :: _ :: _ => .malformed

theorem decode_pushsym_packs : ∀ ops : List Byte, (decode (3 :: ops)).Packs (3 :: ops)
  | [b0, b1, b2, b3, b4, b5, b6, b7] => .ok rfl (congrArg (3 :: ·) (le64_ofLe64 b0 b1 b2 b3 b4 b5 b6 b7))
  | [] | [_] | [_, _] | [_, _, _] | [_, _, _, _] | [_, _, _, _, _] | [_, _, _, _, _, _] | [_, _, _, _, _, _, _]
  | _ :: _ :: _ :: _ :: _ :: _ :: _ :: _ :: _ :: _ => .malformed

theorem decode_outPop_packs : ∀ ops : List Byte, (decode (4 :: ops)).Packs (4 :: ops)
  | [] => .ok rfl rfl
  | _ :: _ => .malformed

theorem decode_command_packs : ∀ ops : List Byte, (decode (5 :: ops)).Packs (5 :: ops)
  | [v0, v1, v2, v3] => by
    rw [decode_command, ← le32_ofLe32 v0 v1 v2 v3]
    exact decodeCommand_packs (ofLe32 v0 v1 v2 v3)
  | [] | [_] | [_, _] | [_, _, _] | _ :: _ :: _ :: _ :: _ :: _ => .malformed

theorem decode_csr_packs : ∀ ops : List Byte, (decode (6 :: ops)).Packs (6 :: ops)
  | [n, a] => by
    rw [decode_read]
    split
    case isTrue ha => exact ha ▸ decodeCsr_packs n .rd
    case isFalse => exact .malformed
  | [n, a, v0, v1, v2, v3] => by
    rw [decode_write]
    split
    case isTrue ha =>
      rw [ha, ← le32_ofLe32 v0 v1 v2 v3]
      exact decodeCsr_packs n (.wr (ofLe32 v0 v1 v2 v3))
    case isFalse => exact .malformed
  | [] | [_] | [_, _, _] | [_, _, _, _] | [_, _, _, _, _] | _ :: _ :: _ :: _ :: _ :: _ :: _ :: _ => .malformed

theorem decode_phase_packs : ∀ ops : List Byte, (decode (7 :: ops)).Packs (7 :: ops)
  | [c] => decodePhase_packs c
  | [] | _ :: _ :: _ => .malformed

theorem decode_injectSearch_packs : ∀ ops : List Byte, (decode (8 :: ops)).Packs (8 :: ops)
  | [] => .ok rfl rfl
  | _ :: _ => .malformed

theorem decode_coreStep_packs : ∀ ops : List Byte, (decode (9 :: ops)).Packs (9 :: ops)
  | [] => .ok rfl rfl
  | _ :: _ => .malformed

theorem decode_eosAction_packs : ∀ ops : List Byte, (decode (10 :: ops)).Packs (10 :: ops)
  | [] => .ok rfl rfl
  | _ :: _ => .malformed

theorem decode_fn_packs : ∀ ops : List Byte, (decode (11 :: ops)).Packs (11 :: ops)
  | [c] => decodeFn_packs c
  | [] | _ :: _ :: _ => .malformed

theorem decode_ham_packs : ∀ ops : List Byte, (decode (12 :: ops)).Packs (12 :: ops)
  | [c] => decodeHam_packs c
  | [] | _ :: _ :: _ => .malformed

theorem decode_of_otherKind {k : Byte} (hk : 13 ≤ k.toNat) (ops : List Byte) : decode (k :: ops) = .malformed := by
  obtain ⟨m, hm⟩ := Nat.exists_eq_add_of_le' hk
  dsimp only [decode]
  rw [hm]
  rfl

/-- Whatever the bytes, what the decoder answers packs back to them. -/
theorem decode_packs : ∀ p : Packet, (decode p).Packs p
  | [] => .malformed
  | k :: ops => by
    by_cases hk : 13 ≤ k.toNat
    · rw [decode_of_otherKind hk]
      exact .malformed
    · obtain ⟨m, hm⟩ : ∃ m, k.toNat = m := ⟨_, rfl⟩
      obtain rfl := byte_of_toNat hm
      rw [hm] at hk
      clear hm
      interval_cases m
      exacts [decode_csrW_packs ops, decode_csrR_packs ops, decode_push_packs ops, decode_pushsym_packs ops,
        decode_outPop_packs ops, decode_command_packs ops, decode_csr_packs ops, decode_phase_packs ops,
        decode_injectSearch_packs ops, decode_coreStep_packs ops, decode_eosAction_packs ops, decode_fn_packs ops,
        decode_ham_packs ops]

/-- Settles O2: by the kind byte of the packet. -/
theorem encodeInvertsDecode : Obligations.EncodeInvertsDecode := decode_packs

/-- Settles O3: the packets evaluate, one format at a time. -/
theorem specWordsDecode : Obligations.SpecWordsDecode := by
  unfold Obligations.SpecWordsDecode
  decide

end Sys2Proof
end

section
/-! PROOFS. The transactions CSR.W and CSR.R, and a write of CTRL, as rows (10_state R21, R22, R45; 30_encoding R95, R96). -/

namespace Sys2Proof.Machine

/-- The row of a register number is the access to the register of that number. -/
theorem exec_decodeCsr (n : Byte) (a : CsrAccess) (s : State) : exec (decodeCsr n a) s = .next (csrAccess n.toNat a s) := by
  unfold decodeCsr
  split
  case h_33 => rfl
  all_goals
    rename_i hn
    rw [hn]
    rfl

/-- The row of a word written to CTRL is the command of its code, whatever its ignored bits. -/
theorem exec_decodeCommand (v : Word32) (s : State) : exec (decodeCommand v) s = .next (command (v.extractLsb' 0 4) s) := by
  unfold decodeCommand
  generalize v.extractLsb' 0 4 = c
  obtain ⟨⟨n, hn⟩⟩ := c
  interval_cases n <;> rfl

/-- Settles O17: the row of the number is the same access, and at number 0 a write is the command. -/
theorem csrTransactionsActAsRows : Obligations.CsrTransactionsActAsRows := by
  intro n v s
  exact ⟨(exec_decodeCsr n (.wr v) s).symm, (exec_decodeCsr n .rd s).symm, (exec_decodeCommand v s).symm,
    (exec_decodeCommand v s).symm⟩

end Sys2Proof.Machine
end

section
/-! PROOFS. FRAME_WORDS (30_encoding R93, R94): the fields of W0 and W1, and where each payload byte and each symbol stands. -/

namespace Sys2Proof.Machine

/-! ### W0 and W1 -/

/-- A count that fits its field of a frame word is not cut. -/
theorem setWidth_count {w n : Nat} (hw : w ≤ 32) (hn : n < 2 ^ w) : (BitVec.ofNat w n).setWidth 32 = BitVec.ofNat 32 n :=
  BitVec.setWidth_ofNat_of_le_of_lt hw hn

theorem toNat_frameW0 {f : Frame} (h : f.payloadBytes.length < 2 ^ 9) :
    (frameW0 f).toNat = f.payloadLength.toNat + 2 ^ 8 * f.codingRate.toNat + 2 ^ 11 * f.hasCrc.toNat
      + 2 ^ 12 * f.headerCrcOk.toNat + 2 ^ 13 * f.crcOk.toNat + 2 ^ 14 * f.crcChecked.toNat + 2 ^ 15 * f.implicit.toNat
      + 2 ^ 16 * f.payloadBytes.length := by
  have hlen := f.payloadLength.isLt
  have hcr := f.codingRate.isLt
  have hcrc := f.hasCrc.toNat_le
  have hhdr := f.headerCrcOk.toNat_le
  have hok := f.crcOk.toNat_le
  have hchecked := f.crcChecked.toNat_le
  have himplicit := f.implicit.toNat_le
  rw [frameW0, ← BitVec.ofNat_toNat 32 f.payloadLength, ← BitVec.ofNat_toNat 32 f.codingRate, setWidth_count (by decide) h]
  simp only [flagBit]
  repeat rw [ofNat_or_shiftLeft (by omega)]
  exact Nat.mod_eq_of_lt (by omega)

theorem toNat_frameW1 {f : Frame} (hdiag : f.diag.length < 2 ^ 10) (hunc : f.hamUnc < 2 ^ 10) :
    (frameW1 f).toNat = f.diag.length + 2 ^ 16 * f.hamUnc := by
  rw [frameW1, setWidth_count (by decide) hdiag, setWidth_count (by decide) hunc, ofNat_or_shiftLeft (by omega)]
  exact Nat.mod_eq_of_lt (by omega)

/-! ### Payload bytes -/

/-- The last word of a record with fewer than four bytes for it (R94: its unused bits are 0). -/
theorem setWidth_eq_ofLe32 {w : Nat} {v : BitVec w} {b0 b1 b2 b3 : Byte} (hw : w ≤ 32)
    (h : v.toNat = b0.toNat + 2 ^ 8 * b1.toNat + 2 ^ 16 * b2.toNat + 2 ^ 24 * b3.toNat) : v.setWidth 32 = ofLe32 b0 b1 b2 b3 := by
  apply BitVec.eq_of_toNat_eq
  rw [BitVec.toNat_setWidth_of_le hw, toNat_ofLe32, h]

/-- The first word takes four bytes, absent ones 0; the others are the words of the rest. -/
theorem packBytes_of_ne_nil : ∀ {l : List Byte}, l ≠ [] →
    packBytes l = ofLe32 (l.getD 0 0) (l.getD 1 0) (l.getD 2 0) (l.getD 3 0) :: packBytes (l.drop 4)
  | [a], _ => congrArg (· :: []) (setWidth_eq_ofLe32 (b1 := 0) (b2 := 0) (b3 := 0) (by decide) rfl)
  | [a, b], _ => congrArg (· :: []) (setWidth_eq_ofLe32 (b2 := 0) (b3 := 0) (by decide) <| by
      rw [toNat_append_eq]
      exact Nat.add_comm _ _)
  | [a, b, c], _ => congrArg (· :: []) (setWidth_eq_ofLe32 (b3 := 0) (by decide) <| by
      rw [toNat_append_eq, toNat_append_eq]
      change _ = a.toNat + 2 ^ 8 * b.toNat + 2 ^ 16 * c.toNat + 0
      omega)
  | _ :: _ :: _ :: _ :: _, _ => rfl

theorem length_packBytes (l : List Byte) : (packBytes l).length = (l.length + 3) / 4 := by
  fun_induction packBytes l with
  | case1 | case2 | case3 | case4 => simp
  | case5 a b c d rest ih =>
    simp only [List.length_cons, ih]
    omega

/-- The bytes of a word in their order (R94). -/
theorem getD_le32 {i : Nat} (hi : i < 4) (v : Word32) : (le32 v).getD i 0 = v.extractLsb' (8 * i) 8 := by
  interval_cases i <;> rfl

/-- Byte `t` stands in word `t / 4` at bits `8*(t mod 4)` (R94). -/
theorem byte_packBytes (l : List Byte) (t : Nat) :
    ((packBytes l).getD (t / 4) 0).extractLsb' (8 * (t % 4)) 8 = l.getD t 0 := by
  induction t using Nat.strong_induction_on generalizing l with
  | _ t ih =>
    by_cases hl : l = []
    · subst hl
      simp [packBytes]
    rw [packBytes_of_ne_nil hl, ← getD_le32 (Nat.mod_lt t (by decide))]
    by_cases ht : t < 4
    · rw [Nat.div_eq_of_lt ht, Nat.mod_eq_of_lt ht, List.getD_cons_zero, le32_ofLe32]
      interval_cases t <;> rfl
    · obtain ⟨u, rfl⟩ := Nat.exists_eq_add_of_le' (Nat.not_lt.mp ht)
      rw [Nat.add_div_right u (by decide), Nat.add_mod_right, List.getD_cons_succ, getD_le32 (Nat.mod_lt u (by decide)),
        ih u (by omega)]
      simp [List.getD_eq_getElem?_getD, Nat.add_comm]

/-! ### Symbols -/

/-- The words of symbol `k` are the three from `3*k` on. -/
theorem take_drop_flatMap_diagWords : ∀ {l : List Diag} {k : Nat} {d : Diag}, l[k]? = some d →
    ((l.flatMap diagWords).drop (3 * k)).take 3 = diagWords d
  | _ :: _, 0, _, rfl => rfl
  | _ :: l, k + 1, _, h => take_drop_flatMap_diagWords (l := l) (k := k) h

theorem length_flatMap_diagWords (l : List Diag) : (l.flatMap diagWords).length = 3 * l.length := by
  simp [List.length_flatMap, diagWords, Nat.mul_comm]

/-! ### The record -/

/-- The eight words before the payload. -/
def frameHead (f : Frame) : List Word32 := (frameWords f).take 8

theorem frameWords_eq (f : Frame) : frameWords f = frameHead f ++ (packBytes f.payloadBytes ++ f.diag.flatMap diagWords) := rfl

/-- Settles O55: the eight words of the head, then the words of the bytes, then three for each symbol. -/
theorem frameWordsLayout : Obligations.FrameWordsLayout := by
  rintro s f rfl
  refine ⟨frameWords s.call.frame, rfl, ?_⟩
  generalize s.call.frame = f
  have hhead : (frameHead f).length = 8 := rfl
  have hpack := length_packBytes f.payloadBytes
  refine ⟨?length, fun hbytes hdiag hunc => ⟨?w0, ?w1⟩, rfl, fun t ht => ?byte, fun k d hd => ?symbol⟩
  case length =>
    rw [frameWords_eq, List.length_append, List.length_append, hhead, hpack, length_flatMap_diagWords, Nat.add_assoc]
  case w0 => exact toNat_frameW0 (by omega)
  case w1 => exact toNat_frameW1 (by omega) (by omega)
  case byte =>
    rw [frameWords_eq, List.getD_append_right _ _ _ _ (by omega), List.getD_append _ _ _ _ (by omega), hhead,
      Nat.add_sub_cancel_left, byte_packBytes]
  case symbol =>
    rw [frameWords_eq, ← List.append_assoc, ← List.drop_drop, List.drop_left' (by rw [List.length_append, hhead, hpack]),
      take_drop_flatMap_diagWords hd, diagWords]

end Sys2Proof.Machine
end

section
/-! PROOFS. The correlator rows (40_chirp_reference R110 to R112, 41_frame_sync R127, R130, 42_symbol_demod R141 to R145, R152):
the entries of each table, what a window below AVAIL gives, and the searches over offsets and windows. -/

namespace Sys2Proof.Machine

/-! ### Tables of entries -/

section
variable {R C : Type} (A : Arith R C)

theorem getD_map_range {α : Type} (f : Nat → α) {n k : Nat} (h : k < n) (d : α) : ((List.range n).map f).getD k d = f k := by
  simp [List.getD_eq_getElem?_getD, h]

theorem cxAt_map_range (f : Nat → C) {n k : Nat} (h : k < n) : cxAt A ((List.range n).map f) k = f k := getD_map_range f h _

/-- A sum of at least one term, from the first on (log 8). -/
theorem sumOf_map_range {α : Type} (add : α → α → α) (zero : α) (f : Nat → α) {n : Nat} (hn : 1 ≤ n) :
    sumOf add zero ((List.range n).map f) = (List.range (n - 1)).foldl (fun acc q => add acc (f (q + 1))) (f 0) := by
  obtain ⟨m, rfl⟩ := Nat.exists_eq_add_of_le' hn
  simp [List.range_succ_eq_map, List.foldl_map]

theorem chirpPhase_eq (n : Nat) (t : Rat) : chirpPhase n t = t ^ 2 / (2 * n) - t / 2 := by rw [chirpPhase, pow_two]

theorem chirpDown_eq (n : Nat) :
    chirpDown A n = (List.range n).map fun (k : Nat) => A.conj (A.cexp (A.ofRat (chirpPhase n (k : Rat)))) := List.map_map

theorem refDown_eq (n os : Nat) : refDown A n os
    = (List.range (os * n)).map fun (m : Nat) => A.conj (A.cexp (A.ofRat (chirpPhase n ((m : Rat) / (os : Rat))))) := List.map_map

theorem fracCorrect_getD (ns : Nat) (cf : R) {x : List C} {m : Nat} (h : m < x.length) (d : C) :
    (fracCorrect A ns cf x).getD m d
      = A.cmul (x.getD m d) (A.cexp (A.rmul cf (A.ofRat (-((m : Rat) / (ns : Rat)))))) := by
  simp [fracCorrect, List.getD_eq_getElem?_getD, h]

theorem fracCorrect_map_range (ns n : Nat) (cf : R) (x : Nat → C) :
    fracCorrect A ns cf ((List.range n).map x)
      = (List.range n).map fun m => A.cmul (x m) (A.cexp (A.rmul cf (A.ofRat (-((m : Rat) / (ns : Rat)))))) := by
  apply List.ext_getElem <;> simp [fracCorrect]

/-! ### The correlator -/

/-- DECIMATE of a list whose entries, as far as the rule reads them, are `z` (R142). -/
theorem decimate_of_entries {l : List C} {z : Nat → C} {n os : Nat} (sub : Bool) (hos : 1 ≤ os)
    (hz : ∀ m, m < os * n → cxAt A l m = z m) :
    decimate A sub n os l = (List.range n).map fun k => if sub then z (k * os)
      else (List.range (os - 1)).foldl (fun acc q => A.cadd acc (z (k * os + (q + 1)))) (z (k * os)) := by
  refine List.map_congr_left fun k hk => ?_
  have hread : ∀ q, q < os → cxAt A l (k * os + q) = z (k * os + q) := fun q hq => hz _ <|
    calc k * os + q < (k + 1) * os := by rw [Nat.succ_mul]; exact Nat.add_lt_add_left hq _
      _ ≤ os * n := by rw [Nat.mul_comm os]; exact Nat.mul_le_mul_right os (List.mem_range.mp hk)
  have hblock : ((List.range os).map fun q => cxAt A l (k * os + q)) = (List.range os).map fun q => z (k * os + q) :=
    List.map_congr_left fun q hq => hread q (List.mem_range.mp hq)
  have hfirst : cxAt A l (k * os) = z (k * os) := hread 0 hos
  rw [hfirst, hblock, csum, sumOf_map_range _ _ _ hos, Nat.add_zero]

/-- Entry `m` of the corrected window, conjugated on the conjugated path, and dechirped (R141). -/
def dechirpedAt (cfg : Cfg) (conjIn : Bool) (cf : R) (x : Nat → C) (m : Nat) : C :=
  let xm := A.cmul (x m) (A.cexp (A.rmul cf (A.ofRat (-((m : Rat) / (cfg.ns : Rat))))))
  A.cmul (if conjIn then A.conj xm else xm)
    (A.conj (A.cexp (A.ofRat (chirpPhase cfg.bins ((m : Rat) / (cfg.os : Rat))))))

/-- DECHIRP_FFT of a window of `Ns` samples, from its dechirped entries on (R141). -/
theorem spectrum_map_range {cfg : Cfg} (hns : cfg.ns = cfg.os * cfg.bins) (conjIn : Bool) (cf : R) (x : Nat → Cx) :
    spectrum A cfg conjIn cf ((List.range cfg.ns).map x) = dft A cfg.bins (decimate A cfg.decimSub cfg.bins cfg.os
      ((List.range (cfg.os * cfg.bins)).map (dechirpedAt A cfg conjIn cf fun m => A.ofCx (x m)))) := by
  rw [spectrum, List.map_map, correlate, fracCorrect_map_range, refDown_eq, ← hns]
  cases conjIn <;> simp only [Bool.false_eq_true, ↓reduceIte, List.map_map, List.zipWith_map, List.zipWith_self] <;> rfl

/-! ### Windows below AVAIL -/

/-- The `Ns` reads from index `a` on. -/
def samplesFrom (s : State) (a : Nat) : List Cx := (List.range s.cfg.ns).map fun m => sampleAt s (a + m)

theorem window_of_le {s : State} {a : Nat} (h : a + s.cfg.ns ≤ s.avail) : window s s.cfg.ns a = some (samplesFrom s a) := if_pos h

theorem specAt_of_le {s : State} {a : Nat} (h : a + s.cfg.ns ≤ s.avail) (conjIn : Bool) (cf : R) :
    specAt A s.cfg (window s s.cfg.ns) conjIn cf a = some (spectrum A s.cfg conjIn cf (samplesFrom s a)) := by
  rw [specAt, window_of_le h]

theorem specAt_of_lt {s : State} {a : Nat} (h : s.avail < a + s.cfg.ns) (conjIn : Bool) (cf : R) :
    specAt A s.cfg (window s s.cfg.ns) conjIn cf a = none := by
  rw [specAt, window_eq_none.mpr h]

theorem mapO_eq_some {α β : Type} {f : α → Option β} {g : α → β} {l : List α} (h : ∀ a ∈ l, f a = some (g a)) :
    mapO f l = some (l.map g) := by
  induction l with
  | nil => rfl
  | cons a as ih => simp [mapO, h a, ih fun b hb => h b (List.mem_cons_of_mem a hb)]

theorem mapO_eq_none {α β : Type} {f : α → Option β} {l : List α} {a : α} (ha : a ∈ l) (h : f a = none) :
    mapO f l = none := by
  cases hm : mapO f l with
  | none => rfl
  | some m =>
    obtain ⟨b, hb⟩ := mapO_some_mem hm ha
    exact absurd (h.symm.trans hb) nofun

/-! ### FINE_TIMING -/

/-- The last window of the last offset ends below AVAIL, hence each one does. -/
theorem timingWindow_le {s : State} {q2 w : Nat} {d : Int}
    (h : q2 + s.cfg.os / 2 + (s.cfg.nPre - 2) * s.cfg.ns ≤ s.avail) (hd : d ≤ (s.cfg.os / 2 : Nat)) (hw : w < s.cfg.nPre - 3) :
    ((q2 : Int) + d + ((w + 1) * s.cfg.ns : Nat)).toNat + s.cfg.ns ≤ s.avail := by
  have hlast : (w + 1) * s.cfg.ns + s.cfg.ns ≤ (s.cfg.nPre - 2) * s.cfg.ns := by
    rw [← Nat.succ_mul]
    exact Nat.mul_le_mul_right _ (by omega)
  omega

theorem timingMetric_of_le {s : State} {q2 : Nat} {d : Int}
    (h : q2 + s.cfg.os / 2 + (s.cfg.nPre - 2) * s.cfg.ns ≤ s.avail) (hd : d ≤ (s.cfg.os / 2 : Nat)) (cf : R) :
    timingMetric A s.cfg (window s s.cfg.ns) q2 cf d
      = some (rsum A ((List.range (s.cfg.nPre - 3)).map fun (w : Nat) => A.abs2 (cxAt A
          (spectrum A s.cfg false cf (samplesFrom s ((q2 : Int) + d + ((w + 1) * s.cfg.ns : Nat)).toNat)) 0))) := by
  have hspec := fun w hw => specAt_of_le A (timingWindow_le (w := w) h hd (List.mem_range.mp hw)) false cf
  rw [timingMetric, Nat.sub_sub, mapO_eq_some hspec]
  simp only [List.map_map]
  rfl

/-- The last window of the last offset is not below AVAIL. -/
theorem fineTiming_starved {s : State} {q2 : Nat} (hpre : 4 ≤ s.cfg.nPre)
    (h : s.avail < q2 + s.cfg.os / 2 + (s.cfg.nPre - 2) * s.cfg.ns) (cf : R) :
    fineTiming A s.cfg (window s s.cfg.ns) q2 cf = none := by
  obtain ⟨n, hn⟩ := Nat.exists_eq_add_of_le' hpre
  have hlast : (s.cfg.nPre - 2) * s.cfg.ns = (n + 1) * s.cfg.ns + s.cfg.ns := by rw [hn, ← Nat.succ_mul]; rfl
  have hmem : n ∈ List.range (s.cfg.nPre - 1 - 2) := List.mem_range.mpr (by omega)
  have hmetric : timingMetric A s.cfg (window s s.cfg.ns) q2 cf
      (((2 * (s.cfg.os / 2) : Nat) : Int) - (s.cfg.os / 2 : Nat)) = none := by
    rw [timingMetric, mapO_eq_none hmem]
    exact specAt_of_lt A (by omega) false cf
  rw [fineTiming, mapO_eq_none (List.mem_range.mpr (Nat.lt_succ_self (2 * (s.cfg.os / 2)))) hmetric]

end

/-- `d` is the smallest of the offsets `-h .. h` with the largest value of `m` (R127). -/
structure IsSmallestBestOffset (m : Int → Rat) (h : Nat) (d : Int) : Prop where
  low : -(h : Int) ≤ d
  high : d ≤ h
  best : ∀ d', -(h : Int) ≤ d' → d' ≤ h → m d' ≤ m d ∧ (d' < d → m d' < m d)

/-- The peak over the offsets, counted from `-h`, as an offset. -/
theorem peak_isSmallestBestOffset (m : Int → Rat) (h : Nat) :
    IsSmallestBestOffset m h ((peak machineArith ((List.range (2 * h + 1)).map fun (i : Nat) => m ((i : Int) - h)) : Int) - h) := by
  have hne : ((List.range (2 * h + 1)).map fun (i : Nat) => m ((i : Int) - h)) ≠ [] := by simp
  have hpeak := peak_isLowestArgmax machineArith_rlt hne 0
  generalize peak machineArith _ = k at hpeak ⊢
  obtain ⟨hlt, hle, hbefore⟩ := hpeak
  simp only [List.length_map, List.length_range] at hlt hle
  have hentry : ∀ i, i < 2 * h + 1 →
      ((List.range (2 * h + 1)).map fun (i : Nat) => m ((i : Int) - h)).getD i 0 = m ((i : Int) - h) :=
    fun i hi => getD_map_range _ hi 0
  refine ⟨by omega, by omega, fun d' hlow hhigh => ?_⟩
  obtain ⟨i, hi⟩ := Int.eq_ofNat_of_zero_le (show 0 ≤ d' + h by omega)
  obtain rfl : d' = (i : Int) - h := by omega
  have hi' : i < 2 * h + 1 := by omega
  have hmax := hle i hi'
  rw [hentry i hi', hentry k hlt] at hmax
  refine ⟨hmax, fun hd => ?_⟩
  have hsmaller := hbefore i (by omega)
  rwa [hentry i hi', hentry k hlt] at hsmaller

/-- FINE_TIMING where each metric can be evaluated (R127). -/
theorem fineTiming_of_metrics {cfg : Cfg} {rd : Nat → Option (List Cx)} {q2 : Nat} {cf : Rat} {m : Int → Rat}
    (h : ∀ d : Int, d ≤ (cfg.os / 2 : Nat) → timingMetric machineArith cfg rd q2 cf d = some (m d)) :
    ∃ d, fineTiming machineArith cfg rd q2 cf = some d ∧ IsSmallestBestOffset m (cfg.os / 2) d := by
  refine ⟨_, ?_, peak_isSmallestBestOffset m (cfg.os / 2)⟩
  have hmetric : ∀ i ∈ List.range (2 * (cfg.os / 2) + 1),
      timingMetric machineArith cfg rd q2 cf ((i : Int) - (cfg.os / 2 : Nat)) = some (m ((i : Int) - (cfg.os / 2 : Nat))) := fun i hi => by
    have hlt := List.mem_range.mp hi
    exact h _ (by omega)
  rw [fineTiming, mapO_eq_some hmetric]

/-! ### FIND_DOWNCHIRP -/

section
variable {R C : Type} (A : Arith R C)

/-- The conjugated path has the larger peak power in the window `w` from `q2` on (R130). -/
def downDominates (s : State) (q2 : Int) (cf : R) (w : Nat) : Bool :=
  let win := samplesFrom s (q2 + (w * s.cfg.ns : Nat)).toNat
  A.rlt (maxPower A (powers A (spectrum A s.cfg false cf win))) (maxPower A (powers A (spectrum A s.cfg true cf win)))

/-- The search over ascending windows reads those up to the first dominant one only. -/
theorem findDownIn_eq_find? {s : State} {q2 : Int} {cf : R} {ws : List Nat} (hws : ws.Pairwise (· < ·))
    (hread : ∀ w ∈ ws, (∀ f ∈ ws.find? (downDominates A s q2 cf), w ≤ f) →
      (q2 + (w * s.cfg.ns : Nat)).toNat + s.cfg.ns ≤ s.avail) :
    findDownIn A s.cfg (window s s.cfg.ns) q2 cf ws = some (ws.find? (downDominates A s q2 cf)) := by
  induction ws with
  | nil => rfl
  | cons w rest ih =>
    obtain ⟨hlt, hrest⟩ := List.pairwise_cons.mp hws
    have hfirst : ∀ f ∈ (w :: rest).find? (downDominates A s q2 cf), w ≤ f := fun f hf => by
      obtain rfl | hmem := List.mem_cons.mp (List.mem_of_find?_eq_some hf)
      · exact le_rfl
      · exact (hlt f hmem).le
    have hspec := specAt_of_le A (hread w List.mem_cons_self hfirst) (cf := cf)
    rw [findDownIn, hspec false, hspec true]
    cases hdom : downDominates A s q2 cf w with
    | true =>
      rw [List.find?_cons_of_pos hdom]
      exact if_pos hdom
    | false =>
      have hnot : ¬ downDominates A s q2 cf w = true := by simp [hdom]
      rw [List.find?_cons_of_neg hnot] at hread ⊢
      rw [← ih hrest fun v hv => hread v (List.mem_cons_of_mem w hv)]
      exact if_neg hnot

/-- The four windows of FIND_DOWNCHIRP (R129, R130), read up to the first dominant one. -/
theorem findDownchirp_of_le {s : State} {q2 : Int} {cf : R} {first : Option Nat}
    (hfirst : first = (List.range 4).find? fun i => downDominates A s q2 cf (s.cfg.nPre - 2 + i))
    (h : (q2 + ((s.cfg.nPre - 2 + first.getD 3) * s.cfg.ns : Nat)).toNat + s.cfg.ns ≤ s.avail) :
    findDownchirp A s.cfg (window s s.cfg.ns) q2 cf = some (first.map fun i => s.cfg.nPre - 2 + i) := by
  have hfind : ((List.range 4).map fun i => s.cfg.nPre - 2 + i).find? (downDominates A s q2 cf)
      = first.map fun i => s.cfg.nPre - 2 + i := by
    rw [List.find?_map, hfirst]
    rfl
  have hascending : ((List.range 4).map fun i => s.cfg.nPre - 2 + i).Pairwise (· < ·) :=
    List.pairwise_lt_range.map _ fun _ _ hij => Nat.add_lt_add_left hij _
  rw [findDownchirp, findDownIn_eq_find? A hascending, hfind]
  intro w hw hle
  have hlast : w ≤ s.cfg.nPre - 2 + first.getD 3 := by
    cases hf : first with
    | none =>
      obtain ⟨i, hi, rfl⟩ := List.mem_map.mp hw
      exact Nat.add_le_add_left (Nat.le_of_lt_succ (List.mem_range.mp hi)) _
    | some f => exact hle _ (by rw [hfind, hf]; rfl)
  have hmul := Nat.mul_le_mul_right s.cfg.ns hlast
  omega

end

/-! ### DIAGNOSTICS -/

theorem isZeroR_machineArith (x : Rat) : isZeroR machineArith x = true ↔ x = 0 := by
  have heq : isZeroR machineArith x = (!decide (0 < x) && !decide (x < 0)) := rfl
  rw [heq, Bool.and_eq_true, Bool.not_eq_true', Bool.not_eq_true', decide_eq_false_iff_not, decide_eq_false_iff_not, not_lt,
    not_lt, le_antisymm_iff]

/-- The largest value of a list that has one. -/
theorem maxPower_eq {l : List Rat} {v : Rat} (hv : v ∈ l) (hmax : ∀ u ∈ l, u ≤ v) : maxPower machineArith l = v := by
  have hpeak := peak_isLowestArgmax machineArith_rlt (List.ne_nil_of_mem hv) 0
  have hentry := realAt_of_lt machineArith hpeak.lt
  rw [maxPower, hentry]
  obtain ⟨i, hi, rfl⟩ := List.mem_iff_getElem.mp hv
  have hle := hpeak.le i hi
  simp only [List.getD_eq_getElem _ _ hi, List.getD_eq_getElem _ _ hpeak.lt] at hle
  exact le_antisymm (hmax _ (List.getElem_mem _)) hle

/-- `p2s_db` of a bin without power is 0 (R152). -/
theorem peakToSecond_of_zero {n k : Nat} {pk : List Rat} (h : realAt machineArith pk k = 0) :
    peakToSecond machineArith n pk k = .fin 0 := if_pos ((isZeroR_machineArith _).mpr h)

/-- `p2s_db` of a bin with power, by the largest of the other powers (R152). -/
theorem peakToSecond_of_ne_zero {n k : Nat} {pk : List Rat} (h : realAt machineArith pk k ≠ 0) :
    peakToSecond machineArith n pk k = if maxPower machineArith (othersOf machineArith n pk k) = 0 then .posInf
      else .fin (10 * machineArith.log10 (realAt machineArith pk k / maxPower machineArith (othersOf machineArith n pk k))) := by
  simp only [peakToSecond, isZeroR_machineArith, h, ↓reduceIte]
  rfl

/-! ### The rows -/

/-- A row that reads samples returns the value of its function where that one is not starved. -/
theorem next_returningIf {α : Type} {o : Option α} {a : α} (h : o = some a) (f : α → Ret) (s : State) :
    (.next (returningIf o f s) : Result) = .next { s with ret := f a } := by
  rw [h]
  rfl

/-- Settles O60: each table by its entries, and each search by its law for windows below AVAIL. -/
theorem correlatorRows : Obligations.CorrelatorRows := by
  refine ⟨fun _ => rfl, fun s => ⟨?chirpUp, ?chirpDown, ?chirpRefOs, ?cfoFracCorrect, ?decimate, rfl, ?cfoIntCorrect,
    ?dechirpFft, ?spectrum, ?injectedDiagnostics, ?sampledDiagnostics, ⟨?fineTiming, fun hpre h => fineTiming_starved _ hpre h _⟩,
    ?findDownchirp⟩⟩
  case chirpUp =>
    refine ⟨chirpUp machineArith s.cfg.bins, rfl, by simp [chirpUp], fun n hn => ?_⟩
    rw [chirpUp, getD_map_range _ hn, chirpPhase_eq]
    rfl
  case chirpDown =>
    refine ⟨chirpDown machineArith s.cfg.bins, rfl, by simp [chirpDown_eq], fun n hn => ?_⟩
    rw [chirpDown_eq, getD_map_range _ hn, chirpPhase_eq]
    rfl
  case chirpRefOs =>
    refine ⟨refUp machineArith s.cfg.bins s.cfg.os, _, rfl, rfl, by simp [refUp], fun m hm => ?_⟩
    rw [refUp, getD_map_range _ hm, chirpPhase_eq]
    rfl
  case cfoFracCorrect =>
    exact ⟨fracCorrect machineArith s.cfg.ns s.call.real s.call.cplx, rfl, List.length_mapIdx,
      fun m hm => fracCorrect_getD machineArith _ _ hm _⟩
  case decimate =>
    refine ⟨decimate machineArith s.cfg.decimSub s.cfg.bins s.cfg.os s.call.cplx, rfl, by simp [decimate],
      fun hfirst n hn => ?_, fun hsum hos n hn => ?_⟩
    · obtain hsub | hos := hfirst
      · rw [decimate, getD_map_range _ hn, hsub, if_pos rfl]
      · rw [decimate_of_entries machineArith _ hos.ge fun _ _ => rfl, getD_map_range _ hn, hos]
        exact ite_self _
    · rw [decimate_of_entries machineArith _ hos fun _ _ => rfl, getD_map_range _ hn, hsum]
      exact if_neg Bool.false_ne_true
  case cfoIntCorrect =>
    exact ⟨intCorrect machineArith s.cfg.bins s.call.z0 s.call.cplx, rfl, by simp [intCorrect],
      fun k hk => getD_map_range _ hk _⟩
  case dechirpFft => exact fun h => next_returningIf (specAt_of_le machineArith h _ _) .cplx s
  case spectrum =>
    intro x z y hns hos hx hz hy
    have hentry : ∀ m, dechirpedAt machineArith s.cfg s.call.flag s.call.real
        (fun m => machineArith.ofCx (sampleAt s (s.call.n0 + m))) m = z m := fun m => by
      rw [hz, hx, ← chirpPhase_eq]
      rfl
    have hdecimate := decimate_of_entries machineArith s.cfg.decimSub hos
      fun m hm => (cxAt_map_range machineArith (n := s.cfg.os * s.cfg.bins) _ hm).trans (hentry m)
    rw [spectrum_map_range machineArith hns, hdecimate, ← hy]
    rfl
  case injectedDiagnostics => exact fun hinj => congrArg Host.Outcome.next (if_pos hinj)
  case sampledDiagnostics =>
    rintro hinj h top others rfl rfl
    refine ⟨_, _, ?_, rfl, rfl, (rsum_machineArith _).trans ?_, peakToSecond_of_zero, fun htop second hmem hmax => ?_⟩
    · exact (congrArg Host.Outcome.next (if_neg (by simp [hinj]))).trans (next_returningIf (window_of_le h) _ s)
    · rw [List.map_map]
      rfl
    · rw [peakToSecond_of_ne_zero htop, othersOf, maxPower_eq hmem hmax]
      exact ⟨fun h => if_pos h, fun h => if_neg h⟩
  case fineTiming =>
    intro h m hm
    obtain ⟨d, hd, hlow, hhigh, hbest⟩ := fineTiming_of_metrics (m := m) fun d hd =>
      (timingMetric_of_le machineArith h hd s.call.real).trans (by rw [hm, rsum_machineArith]; rfl)
    exact ⟨d, next_returningIf hd .int s, hd, hlow, hhigh, hbest⟩
  case findDownchirp =>
    intro pw top a first ha hpw htop hfirst h
    have hdominates : ∀ i, decide (top false i < top true i)
        = downDominates machineArith s s.call.z0 s.call.real (s.cfg.nPre - 2 + i) := fun i => by
      rw [htop, htop, hpw, hpw, ha]
      rfl
    simp only [hdominates] at hfirst
    rw [ha] at h
    have hfound := findDownchirp_of_le machineArith hfirst h
    exact ⟨next_returningIf hfound .optNat s, hfound⟩

end Sys2Proof.Machine
end

section
/-! PROOFS. The estimators of PHASE SEARCH (41_frame_sync R123 to R125): STABLE, FRAC_CFO over any ordered arithmetic, SNR_EST. -/

namespace Sys2Proof.Machine

/-! ### STABLE -/

theorem stable_iff (n : Nat) (pw : List (List Rat)) (b : List Nat) :
    stable machineArith n pw b = true ↔ ∀ w, w < b.length →
      0 < realAt machineArith (pw.getD w []) (b.getD w 0) ∧ circdist n (b.getD w 0 : Nat) (b.getD 0 0 : Nat) ≤ 1 := by
  simp only [stable, List.all_eq_true, List.mem_range, Bool.and_eq_true, machineArith_rlt, decide_eq_true_eq]
  rfl

/-! ### FRAC_CFO -/

/-- `D` of R124: the lag-one correlation of bin `bb` over the spectra `ys`. -/
def lagCorrelation {R C : Type} (A : Arith R C) (ys : List (List C)) (bb : Nat) : C :=
  csum A (List.zipWith (fun y1 y0 => A.cmul (cxAt A y1 bb) (A.conj (cxAt A y0 bb))) ys.tail ys)

/-- FRAC_CFO by its three cases, for an arithmetic with the order of the reals (R124). -/
theorem fracCfo_eq {R C : Type} [LinearOrder R] {A : Arith R C} (hA : ∀ a b, A.rlt a b = true ↔ a < b) (ys : List (List C))
    (bb : Nat) : fracCfo A ys bb = if A.isZero (lagCorrelation A ys bb) then rzero A
      else if A.arg (lagCorrelation A ys bb) = A.ofRat (1 / 2) then A.ofRat (-1 / 2) else A.arg (lagCorrelation A ys bb) := by
  have hequal : ∀ a b, (!A.rlt a b && !A.rlt b a) = true ↔ a = b := fun a b => by
    rw [Bool.and_eq_true, Bool.not_eq_true', Bool.not_eq_true', ← Bool.not_eq_true, ← Bool.not_eq_true, hA, hA, not_lt, not_lt,
      and_comm, le_antisymm_iff]
  simp only [fracCfo, hequal]
  rfl

/-- Neighbours in a list, by their index. -/
theorem zipWith_tail_eq_map_range {α β : Type} (f : α → α → β) (l : List α) (d : α) :
    List.zipWith f l.tail l = (List.range (l.length - 1)).map fun w => f (l.getD (w + 1) d) (l.getD w d) := by
  refine List.ext_getElem (by simp) fun w hw _ => ?_
  simp only [List.length_zipWith, List.length_tail] at hw
  simp [List.getD_eq_getElem?_getD, show w + 1 < l.length by omega, show w < l.length by omega]

/-- The sum of R124 in the order of `w` (log 8): of fewer than two spectra it has no term. -/
theorem lagCorrelation_eq {ys : List (List Cx)} {bb : Nat} {term : Nat → Cx}
    (hterm : ∀ w, term w = machineArith.cmul (cxAt machineArith (ys.getD (w + 1) []) bb)
      (machineArith.conj (cxAt machineArith (ys.getD w []) bb))) :
    lagCorrelation machineArith ys bb = if ys.length < 2 then ⟨0, 0⟩
      else (List.range (ys.length - 2)).foldl (fun acc w => machineArith.cadd acc (term (w + 1))) (term 0) := by
  rw [lagCorrelation, zipWith_tail_eq_map_range _ ys []]
  simp only [← hterm]
  split
  case isTrue hshort =>
    rw [show ys.length - 1 = 0 by omega]
    rfl
  case isFalse hlong => rw [csum, sumOf_map_range _ _ _ (by omega), Nat.sub_sub]

theorem isZero_machineArith (z : Cx) : machineArith.isZero z = true ↔ z = ⟨0, 0⟩ := decide_eq_true_iff

theorem exactArith_rlt (a b : ℝ) : exactArith.rlt a b = true ↔ a < b := decide_eq_true_iff

/-- An angle in turns lies in `(-1/2, 1/2]`. -/
theorem exactArith_arg_range (z : ℂ) : -(1 / 2) < exactArith.arg z ∧ exactArith.arg z ≤ 1 / 2 := by
  have hturn : exactArith.arg z = Complex.arg z / (2 * Real.pi) := rfl
  have hpos : 0 < 2 * Real.pi := Real.two_pi_pos
  rw [hturn, lt_div_iff₀ hpos, div_le_iff₀ hpos]
  constructor
  · linarith [Complex.neg_pi_lt_arg z]
  · linarith [Complex.arg_le_pi z]

/-- The end `1/2` of the range is mapped to the other end (R124). -/
theorem fracCfo_exact_range (ys : List (List ℂ)) (bb : Nat) :
    -(1 / 2) ≤ fracCfo exactArith ys bb ∧ fracCfo exactArith ys bb < 1 / 2 := by
  have hzero : rzero exactArith = 0 := Rat.cast_zero
  have hhalf : exactArith.ofRat (1 / 2) = 1 / 2 := by simp [exactArith]
  have hneg : exactArith.ofRat (-1 / 2) = -(1 / 2) := by simp [exactArith, neg_div]
  obtain ⟨hlow, hhigh⟩ := exactArith_arg_range (lagCorrelation exactArith ys bb)
  rw [fracCfo_eq exactArith_rlt, hzero, hhalf, hneg]
  split_ifs with _ hend
  · norm_num
  · norm_num
  · exact ⟨hlow.le, lt_of_le_of_ne hhigh hend⟩

/-! ### SNR_EST -/

/-- The model's sort is the library's insertion sort. -/
theorem sortAsc_machineArith (l : List Rat) : sortAsc machineArith l = l.insertionSort (· ≤ ·) := by
  have hinsert : ∀ (x : Rat) (m : List Rat), insertAsc machineArith x m = m.orderedInsert (· ≤ ·) x := by
    intro x m
    induction m with
    | nil => rfl
    | cons y ys ih =>
      rw [insertAsc, List.orderedInsert, ih]
      by_cases hle : x ≤ y
      · rw [if_pos hle, if_neg (by rwa [machineArith_rlt, not_lt])]
      · rw [if_neg hle, if_pos (by rwa [machineArith_rlt, ← not_le])]
  induction l with
  | nil => rfl
  | cons x xs ih => rw [sortAsc, ih, hinsert, List.insertionSort_cons]

theorem snrEst_of_median_zero {n b2 : Nat} {pc : List Rat}
    (h : realAt machineArith (sortAsc machineArith (othersOf machineArith n pc b2)) ((n - 2) / 2) = 0) :
    snrEst machineArith n pc b2 = .posInf := if_pos ((isZeroR_machineArith _).mpr h)

theorem snrEst_of_median_ne_zero {n b2 : Nat} {pc : List Rat}
    (h : realAt machineArith (sortAsc machineArith (othersOf machineArith n pc b2)) ((n - 2) / 2) ≠ 0) :
    snrEst machineArith n pc b2 = .fin (10 * machineArith.log10 (realAt machineArith pc b2
      / realAt machineArith (sortAsc machineArith (othersOf machineArith n pc b2)) ((n - 2) / 2))) :=
  if_neg ((isZeroR_machineArith _).not.mpr h)

/-! ### The rows -/

/-- Settles O59: STABLE by its conjuncts, FRAC_CFO by its cases on `D`, SNR_EST by the sorted other powers. -/
theorem estimatorRows : Obligations.EstimatorRows := by
  refine ⟨fun s => ⟨⟨_, rfl, stable_iff _ _ _⟩, rfl, rfl⟩, ?fracCfo, fun n b2 pc => ?snrEst, fracCfo_exact_range⟩
  case fracCfo =>
    rintro ys bb v term d hv hterm rfl
    have hterm' : ∀ w, term w = machineArith.cmul (cxAt machineArith (ys.getD (w + 1) []) bb)
        (machineArith.conj (cxAt machineArith (ys.getD w []) bb)) := fun w => by
      rw [hterm, hv, hv]
      rfl
    rw [← lagCorrelation_eq hterm', fracCfo_eq machineArith_rlt]
    exact if_congr (isZero_machineArith _) rfl (if_congr Iff.rfl rfl rfl)
  case snrEst =>
    refine ⟨sortAsc machineArith (othersOf machineArith n pc b2), ?_, ?_, snrEst_of_median_zero, snrEst_of_median_ne_zero⟩
    · rw [sortAsc_machineArith]
      exact List.pairwise_insertionSort _ _
    · rw [sortAsc_machineArith]
      exact List.perm_insertionSort _ _

end Sys2Proof.Machine
end

section
/-! PROOFS. PREAMBLE_SEARCH (41_frame_sync R121, R122): which candidate decides, and what the candidate at an index is. -/

namespace Sys2Proof.Machine

/-! ### The order of the candidates -/

/-- The first candidate that is not "not stable" answers for the search. -/
theorem searchFrom_eq_find? {R C : Type} {A : Arith R C} {cfg : Cfg} {rd : Nat → Option (List Cx)} {p : Nat} {decides : Nat → Bool}
    (h : ∀ w, decides w = true ↔ examine A cfg rd (p + w * cfg.ns) ≠ some none) (ws : List Nat) :
    searchFrom A cfg rd p ws = (ws.find? decides).elim (some none) fun w => examine A cfg rd (p + w * cfg.ns) := by
  induction ws with
  | nil => rfl
  | cons w rest ih =>
    rw [searchFrom]
    by_cases hnone : examine A cfg rd (p + w * cfg.ns) = some none
    · rw [List.find?_cons_of_neg ((h w).not.mpr (not_not.mpr hnone)), hnone]
      exact ih
    · rw [List.find?_cons_of_pos ((h w).mpr hnone), Option.elim_some]
      split
      next hstarved => exact hstarved.symm
      next hfound => exact hfound.symm
      next hunstable => exact absurd hunstable hnone

/-! ### The ends of an attempt -/

/-- A starved operation of PHASE SEARCH or SYNC holds, or ends the run (48 R235). -/
theorem starve_frontEnd {ph : Phase} (h : ph = .search ∨ ph = .sync) (s : State) :
    starve ph s = if s.eos then { s with sync := { s.sync with locked := false }, phase := .done } else s := by
  obtain rfl | rfl := h <;> rfl

/-- SyncNotFound with `sync_fail` (41 R135). -/
theorem syncFailed_raise_syncNotFound (s : State) : syncFailed (raise .syncNotFound s) =
    { s with
      err := s.err ||| 0x2#32, lastErr := 1, notfoundCount := s.notfoundCount + 1
      sync := { s.sync with locked := false }, p := s.p + s.cfg.ns
      phase := nextPhase { s with notfoundCount := s.notfoundCount + 1 } } := rfl

theorem preambleSearchOp_of_starved {s : State} (h : searchResult s = none) : preambleSearchOp s = starve .search s := by
  rw [preambleSearchOp, h]

theorem preambleSearchOp_of_notFound {s : State} (h : searchResult s = some none) :
    preambleSearchOp s = syncFailed (raise .syncNotFound s) := by
  rw [preambleSearchOp, h]

theorem preambleSearchOp_of_found {s : State} {q2 : Int} {cf : Rat} {snr : Ext Rat}
    (h : searchResult s = some (some (q2, cf, snr))) :
    preambleSearchOp s = { s with cand := ⟨q2, cf, snr⟩, phase := .sync } := by
  rw [preambleSearchOp, h]

/-! ### One candidate -/

section
variable {R C : Type} (A : Arith R C)

/-- The spectra of the run of `n_pre - 1` windows from `q` on, corrected by `cf` (R121). -/
def runSpectra (s : State) (cf : R) (q : Nat) : List (List C) :=
  (List.range (s.cfg.nPre - 1)).map fun w => spectrum A s.cfg false cf (samplesFrom s (q + w * s.cfg.ns))

/-- The run as `examine` evaluates it, where its windows are below AVAIL. -/
theorem mapO_run_of_le {s : State} {q : Nat} (h : ∀ w, w < s.cfg.nPre - 1 → q + w * s.cfg.ns + s.cfg.ns ≤ s.avail) (cf : R) :
    mapO (specAt A s.cfg (window s s.cfg.ns) false cf) ((List.range (s.cfg.nPre - 1)).map fun w => q + w * s.cfg.ns)
      = some (runSpectra A s cf q) := by
  rw [mapO_eq_some (g := fun a => spectrum A s.cfg false cf (samplesFrom s a)), List.map_map]
  · rfl
  · intro a ha
    obtain ⟨w, hw, rfl⟩ := List.mem_map.mp ha
    exact specAt_of_le A (h w (List.mem_range.mp hw)) false cf

/-- A candidate with a window of its run missing is starved. -/
theorem examine_starved {s : State} {q w : Nat} (hw : w < s.cfg.nPre - 1) (h : s.avail < q + w * s.cfg.ns + s.cfg.ns) :
    examine A s.cfg (window s s.cfg.ns) q = none := by
  have hmem : q + w * s.cfg.ns ∈ (List.range (s.cfg.nPre - 1)).map fun w => q + w * s.cfg.ns :=
    List.mem_map.mpr ⟨w, List.mem_range.mpr hw, rfl⟩
  rw [examine, mapO_eq_none hmem (specAt_of_lt A h false _)]

/-- A candidate with its run below AVAIL (R121): not stable, or aligned by the corrected powers and the fine timing. -/
theorem examine_of_le {s : State} {q bb b2 q2 : Nat} {cf : R} {pc : List R}
    (h : ∀ w, w < s.cfg.nPre - 1 → q + w * s.cfg.ns + s.cfg.ns ≤ s.avail)
    (hbb : bb = peak A (sumPowers A s.cfg.bins ((runSpectra A s (rzero A) q).map (powers A))))
    (hcf : cf = fracCfo A (runSpectra A s (rzero A) q) bb)
    (hpc : pc = sumPowers A s.cfg.bins ((runSpectra A s cf q).map (powers A)))
    (hb2 : b2 = peak A pc) (hq2 : q2 = coarseAlign s.cfg.bins s.cfg.os q b2) :
    examine A s.cfg (window s s.cfg.ns) q =
      if stable A s.cfg.bins ((runSpectra A s (rzero A) q).map (powers A))
          (((runSpectra A s (rzero A) q).map (powers A)).map (peak A)) then
        (fineTiming A s.cfg (window s s.cfg.ns) q2 cf).map fun (d : Int) => some ((q2 : Int) + d, cf, snrEst A s.cfg.bins pc b2)
      else some none := by
  subst hq2 hb2 hpc hcf hbb
  simp only [examine, mapO_run_of_le A h]
  refine if_congr Iff.rfl ?_ rfl
  split
  next hstarved => rw [hstarved, Option.map_none]
  next d hd => rw [hd, Option.map_some]

theorem spectrum_length (cfg : Cfg) (conjIn : Bool) (cf : R) (win : List Cx) : (spectrum A cfg conjIn cf win).length = cfg.bins := by
  simp [spectrum, correlate, dft]

/-- A bin's power. -/
theorem realAt_powers {y : List C} {k : Nat} (hk : k < y.length) (d : C) : realAt A (powers A y) k = A.abs2 (y.getD k d) := by
  simp [realAt, powers, List.getD_eq_getElem?_getD, hk]

end

/-- The powers of a run, summed bin by bin. -/
theorem sumPowers_runSpectra (s : State) (cf : Rat) (q : Nat) :
    sumPowers machineArith s.cfg.bins ((runSpectra machineArith s cf q).map (powers machineArith))
      = (List.range s.cfg.bins).map fun k => ((List.range (s.cfg.nPre - 1)).map fun w =>
          machineArith.abs2 ((spectrum machineArith s.cfg false cf (samplesFrom s (q + w * s.cfg.ns))).getD k ⟨0, 0⟩)).sum := by
  refine List.map_congr_left fun k hk => ?_
  have hbin : ∀ w, realAt machineArith
      (powers machineArith (spectrum machineArith s.cfg false cf (samplesFrom s (q + w * s.cfg.ns)))) k
      = machineArith.abs2 ((spectrum machineArith s.cfg false cf (samplesFrom s (q + w * s.cfg.ns))).getD k ⟨0, 0⟩) := fun w =>
    realAt_powers machineArith ((List.mem_range.mp hk).trans_eq (spectrum_length machineArith _ _ _ _).symm) _
  simp only [rsum_machineArith, runSpectra, List.map_map, Function.comp_def, hbin]

/-- STABLE of a run, window by window (R123). -/
theorem stable_runSpectra {s : State} {q : Nat} {pw : Nat → List Rat} {b : Nat → Nat}
    (hpw : ∀ w, pw w = powers machineArith (spectrum machineArith s.cfg false 0 (samplesFrom s (q + w * s.cfg.ns))))
    (hb : ∀ w, b w = peak machineArith (pw w)) :
    stable machineArith s.cfg.bins ((runSpectra machineArith s 0 q).map (powers machineArith))
        (((runSpectra machineArith s 0 q).map (powers machineArith)).map (peak machineArith)) = true
      ↔ ∀ w, w < s.cfg.nPre - 1 → 0 < realAt machineArith (pw w) (b w) ∧ circdist s.cfg.bins (b w) (b 0) ≤ 1 := by
  have hpowers : (runSpectra machineArith s 0 q).map (powers machineArith) = (List.range (s.cfg.nPre - 1)).map pw := by
    rw [runSpectra, List.map_map]
    exact List.map_congr_left fun w _ => (hpw w).symm
  have hpeaks : ((List.range (s.cfg.nPre - 1)).map pw).map (peak machineArith) = (List.range (s.cfg.nPre - 1)).map b := by
    rw [List.map_map]
    exact List.map_congr_left fun w _ => (hb w).symm
  rw [hpowers, hpeaks, stable_iff, List.length_map, List.length_range]
  refine forall₂_congr fun w hw => ?_
  rw [getD_map_range pw hw, getD_map_range b hw, getD_map_range b (Nat.zero_lt_of_lt hw)]

/-- Settles O32: the search is the first deciding candidate, and each candidate is its run of windows. -/
theorem preambleSearchTakesFirstCandidate : Obligations.PreambleSearchTakesFirstCandidate := by
  refine ⟨?order, ?candidate⟩
  case order =>
    rintro s fail n eval hn rfl heval
    refine congrArg Host.Outcome.next ?_
    have hcount : s.cfg.searchWin + 1 - s.cfg.nPre = n := by omega
    have hresult : searchResult s
        = ((List.range n).find? fun w => decide (eval w ≠ some none)).elim (some none) eval := by
      rw [searchResult, searchAttempt, hcount,
        searchFrom_eq_find? (decides := fun w => decide (eval w ≠ some none)) fun w => by rw [decide_eq_true_iff, heval],
        ← funext heval]
    cases hfirst : (List.range n).find? fun w => decide (eval w ≠ some none) with
    | none =>
      exact (preambleSearchOp_of_notFound (hresult.trans (by rw [hfirst]; rfl))).trans (syncFailed_raise_syncNotFound s)
    | some w0 =>
      have hdecides : eval w0 ≠ some none := by simpa using List.find?_some hfirst
      have hanswer : searchResult s = eval w0 := hresult.trans (by rw [hfirst]; rfl)
      dsimp only
      generalize eval w0 = answer at hdecides hanswer ⊢
      obtain _ | _ | ⟨q2, cf, snr⟩ := answer
      · exact (preambleSearchOp_of_starved hanswer).trans (starve_frontEnd (.inl rfl) s)
      · exact absurd rfl hdecides
      · exact preambleSearchOp_of_found hanswer
  case candidate =>
    intro s q r bb b2 q2 y ps b cf steady hr hy hb hps hsteady hbb hcf hb2 hq2
    obtain rfl : r = s.cfg.nPre - 1 := by omega
    have hspectra : ∀ f, runSpectra machineArith s f q = (List.range (s.cfg.nPre - 1)).map (y f) := fun f =>
      List.map_congr_left fun w _ => (hy f w).symm
    have hsums : ∀ f, ps f = sumPowers machineArith s.cfg.bins ((runSpectra machineArith s f q).map (powers machineArith)) :=
      fun f => by
        rw [hps, sumPowers_runSpectra]
        simp only [hy, samplesFrom]
    have hstable := stable_runSpectra (s := s) (q := q) (pw := fun w => (y 0 w).map machineArith.abs2)
      (fun w => by rw [hy]; rfl) hb
    refine ⟨fun ⟨w, hw, hmissing⟩ => examine_starved machineArith hw hmissing, fun hread => ?_⟩
    rw [examine_of_le machineArith hread (hbb.trans (congrArg _ (hsums 0))) (hcf.trans (by rw [← hspectra]; rfl)) (hsums cf) hb2 hq2]
    exact if_congr (hstable.trans hsteady.symm) rfl rfl

end Sys2Proof.Machine
end

section
/-! PROOFS. SYNC_MATCH (41_frame_sync R129 to R135): the windows it reads, and its tests in the order of the rule. -/

namespace Sys2Proof.Machine

/-! ### A window that is not there -/

section
variable {R C : Type} (A : Arith R C)

/-- The search over ascending windows is starved by a missing one that is not behind the first dominant one. -/
theorem findDownIn_starved {s : State} {q2 : Int} {cf : R} {ws : List Nat} {w : Nat} (hws : ws.Pairwise (· < ·)) (hw : w ∈ ws)
    (hfirst : ∀ f ∈ ws.find? (downDominates A s q2 cf), w ≤ f)
    (hmissing : s.avail < (q2 + (w * s.cfg.ns : Nat)).toNat + s.cfg.ns) :
    findDownIn A s.cfg (window s s.cfg.ns) q2 cf ws = none := by
  induction ws with
  | nil => exact absurd hw List.not_mem_nil
  | cons v rest ih =>
    obtain ⟨hlt, hrest⟩ := List.pairwise_cons.mp hws
    rw [findDownIn]
    by_cases hread : (q2 + (v * s.cfg.ns : Nat)).toNat + s.cfg.ns ≤ s.avail
    · have hne : w ≠ v := fun h => absurd hmissing (by rw [h]; exact Nat.not_lt.mpr hread)
      have hmem : w ∈ rest := (List.mem_cons.mp hw).resolve_left hne
      have hbefore : ¬ downDominates A s q2 cf v = true := fun hdom =>
        absurd (hfirst v (List.find?_cons_of_pos hdom)) (Nat.not_le.mpr (hlt w hmem))
      rw [List.find?_cons_of_neg hbefore] at hfirst
      rw [specAt_of_le A hread, specAt_of_le A hread, ← ih hrest hmem hfirst]
      exact if_neg hbefore
    · rw [specAt_of_lt A (Nat.lt_of_not_le hread)]

/-- FIND_DOWNCHIRP where the first dominant window, or the last of the four, is not below AVAIL. -/
theorem findDownchirp_starved {s : State} {q2 : Int} {cf : R} {first : Option Nat}
    (hfirst : first = (List.range 4).find? fun i => downDominates A s q2 cf (s.cfg.nPre - 2 + i))
    (h : s.avail < (q2 + ((s.cfg.nPre - 2 + first.getD 3) * s.cfg.ns : Nat)).toNat + s.cfg.ns) :
    findDownchirp A s.cfg (window s s.cfg.ns) q2 cf = none := by
  have hfind : ((List.range 4).map fun i => s.cfg.nPre - 2 + i).find? (downDominates A s q2 cf)
      = first.map fun i => s.cfg.nPre - 2 + i := by
    rw [List.find?_map, hfirst]
    rfl
  have hascending : ((List.range 4).map fun i => s.cfg.nPre - 2 + i).Pairwise (· < ·) :=
    List.pairwise_lt_range.map _ fun _ _ hij => Nat.add_lt_add_left hij _
  have hindex : first.getD 3 < 4 := by
    cases hf : first with
    | none => exact Nat.lt_succ_self 3
    | some i => exact List.mem_range.mp (List.mem_of_find?_eq_some (hfirst.symm.trans hf))
  refine findDownIn_starved A hascending (List.mem_map.mpr ⟨_, List.mem_range.mpr hindex, rfl⟩) ?_ h
  rw [hfind]
  rintro f hf
  obtain ⟨i, rfl, rfl⟩ := Option.map_eq_some_iff.mp hf
  exact le_rfl

end

/-! ### The tests -/

/-- The bin of the window at `a` on the conjugated path (R129). -/
def syncBin (s : State) (a : Int) : Nat :=
  peak machineArith (powers machineArith (spectrum machineArith s.cfg true s.cand.cfoFrac (samplesFrom s a.toNat)))

section
variable {s : State}

theorem syncResult_of_findDownchirp_none
    (h : findDownchirp machineArith s.cfg (window s s.cfg.ns) s.cand.q2 s.cand.cfoFrac = none) : syncResult s = none := by
  rw [syncResult, syncAttempt, h]

theorem syncResult_of_no_downchirp
    (h : findDownchirp machineArith s.cfg (window s s.cfg.ns) s.cand.q2 s.cand.cfoFrac = some none) :
    syncResult s = some .notFound := by
  rw [syncResult, syncAttempt, h]

variable {wd : Nat} {a : Int}
  (hfound : findDownchirp machineArith s.cfg (window s s.cfg.ns) s.cand.q2 s.cand.cfoFrac = some (some wd))
  (ha : a = s.cand.q2 + (wd * s.cfg.ns : Nat))
include hfound ha

/-- The second sync window is missing. -/
theorem syncResult_of_second_missing (h : s.avail < (a + s.cfg.ns).toNat + s.cfg.ns) : syncResult s = none := by
  simp only [syncResult, syncAttempt, hfound, ← ha, specAt_of_lt machineArith h]
  cases specAt machineArith s.cfg (window s s.cfg.ns) true s.cand.cfoFrac a.toNat <;> rfl

/-- Both sync windows are there: the sync word, then the CFO bound, then the lock (R129). -/
theorem syncResult_of_downchirp {e0 e1 c : Int} (h0 : a.toNat + s.cfg.ns ≤ s.avail)
    (h1 : (a + s.cfg.ns).toNat + s.cfg.ns ≤ s.avail) (he0 : e0 = syncOffset s.cfg.bins (syncBin s a) s.cfg.s0)
    (he1 : e1 = syncOffset s.cfg.bins (syncBin s (a + s.cfg.ns)) s.cfg.s1) (hc : c = cfoIntOf e0) :
    syncResult s = if syncWordMatch s.cfg.bins e0 e1 then
        if cfoOutOfRange machineArith s.cfg.cfoMax c s.cand.cfoFrac then some .cfoOut
        else some (.locked c (stoOf s.cfg (hdrStartOf s.cfg a c) s.p) (hdrStartOf s.cfg a c))
      else some .notFound := by
  subst hc he0 he1
  simp only [syncResult, syncAttempt, hfound, ← ha, specAt_of_le machineArith h0, specAt_of_le machineArith h1]
  rfl

end

/-! ### The operation -/

section
variable {s : State}

theorem syncMatchOp_of_starved (h : syncResult s = none) : syncMatchOp s = starve .sync s := by
  rw [syncMatchOp, h]

theorem syncMatchOp_of_notFound (h : syncResult s = some .notFound) :
    syncMatchOp s = syncFailed (raise .syncNotFound s) := by
  rw [syncMatchOp, h]

/-- The operation with both sync windows there, where the header's start is not negative (log 31). -/
theorem syncMatchOp_of_downchirp {wd : Nat} {a e0 e1 c start : Int}
    (hfound : findDownchirp machineArith s.cfg (window s s.cfg.ns) s.cand.q2 s.cand.cfoFrac = some (some wd))
    (ha : a = s.cand.q2 + (wd * s.cfg.ns : Nat)) (h0 : a.toNat + s.cfg.ns ≤ s.avail)
    (h1 : (a + s.cfg.ns).toNat + s.cfg.ns ≤ s.avail) (he0 : e0 = syncOffset s.cfg.bins (syncBin s a) s.cfg.s0)
    (he1 : e1 = syncOffset s.cfg.bins (syncBin s (a + s.cfg.ns)) s.cfg.s1) (hc : c = cfoIntOf e0)
    (hstart : start = a + c * s.cfg.os + 2 * s.cfg.ns + (s.cfg.ns / 4 : Nat)) (hpos : 0 ≤ start) :
    syncMatchOp s = if 1 < circdist s.cfg.bins e0 e1 then syncFailed (raise .syncNotFound s)
      else if s.cfg.cfoMax ≠ 0 ∧ (s.cfg.cfoMax : Rat) < |(c : Rat) + s.cand.cfoFrac| then syncFailed (raise .cfoOutOfRange s)
      else lockOn c s.cand.cfoFrac ((start - s.p) % s.cfg.ns).toNat s.cand.snrDb start.toNat s := by
  have hheader : hdrStartOf s.cfg a c = start.toNat := by rw [hdrStartOf, hstart]
  have hsto : stoOf s.cfg start.toNat s.p = ((start - s.p) % s.cfg.ns).toNat := by rw [stoOf, Int.toNat_of_nonneg hpos]
  rw [syncMatchOp, syncResult_of_downchirp hfound ha h0 h1 he0 he1 hc, hheader, hsto]
  simp only [syncWordMatch_iff, cfoOutOfRange_iff, ← not_le, ite_not]
  split_ifs <;> rfl

end

/-- Settles O33: FIND_DOWNCHIRP's window, then the tests; where a window that they reach is missing, the operation is starved. -/
theorem syncMatchTestsInOrder : Obligations.SyncMatchTestsInOrder := by
  intro s fail1 fail2 cf pw top a e0 e1 c start first last hcf hpre hpos hpw ha htop he0 he1 hc hstart hfail1 hfail2 hfirst hlast
  subst hcf hfail1 hfail2
  have hdominates : ∀ i, decide (top false i < top true i)
      = downDominates machineArith s s.cand.q2 s.cand.cfoFrac (s.cfg.nPre - 2 + i) := fun i => by
    rw [htop, htop, hpw, hpw, ha]
    rfl
  have hbin : ∀ x, peak machineArith (pw true x) = syncBin s x := fun x => by
    rw [hpw]
    rfl
  simp only [hdominates] at hfirst
  simp only [hbin] at he0 he1
  have hahead : ∀ i, 0 ≤ a i := fun i => by
    rw [ha] at hpos ⊢
    have := Nat.mul_le_mul_right s.cfg.ns (Nat.le_add_right (s.cfg.nPre - 2) i)
    rw [Nat.add_zero] at hpos
    omega
  have hfind := findDownchirp_of_le machineArith hfirst
  have hstarved := findDownchirp_starved machineArith hfirst
  simp only [← ha] at hfind hstarved
  refine ⟨fun hread hheader => congrArg Host.Outcome.next ?evaluated, fun hmissing => ?starved⟩
  case evaluated =>
    cases first with
    | none =>
      obtain rfl : last = a 3 + s.cfg.ns := hlast
      have h3 := hahead 3
      exact syncMatchOp_of_notFound (syncResult_of_no_downchirp (hfind (show (a 3).toNat + s.cfg.ns ≤ s.avail by omega)))
    | some i =>
      obtain rfl : last = a i + 2 * s.cfg.ns := hlast
      have hi := hahead i
      exact syncMatchOp_of_downchirp (hfind (show (a i).toNat + s.cfg.ns ≤ s.avail by omega)) (ha i) (by omega) (by omega)
        (he0 i) (he1 i) (hc i) (hstart i) (hheader i rfl)
  case starved =>
    have hnone : syncResult s = none := by
      by_cases hread : (a (first.getD 3)).toNat + s.cfg.ns ≤ s.avail
      · cases first with
        | none =>
          obtain rfl : last = a 3 + s.cfg.ns := hlast
          have hlate : ¬ (a 3).toNat + s.cfg.ns ≤ s.avail := by omega
          exact absurd hread hlate
        | some i =>
          obtain rfl : last = a i + 2 * s.cfg.ns := hlast
          have hi := hahead i
          exact syncResult_of_second_missing (hfind hread) (ha i) (by omega)
      · exact syncResult_of_findDownchirp_none (hstarved (Nat.lt_of_not_le hread))
    have hop := (syncMatchOp_of_starved hnone).trans (starve_frontEnd (.inr rfl) s)
    exact ⟨fun heos => congrArg Host.Outcome.next (hop.trans (if_neg (ne_true_of_eq_false heos))),
      fun heos => congrArg Host.Outcome.next (hop.trans (if_pos heos))⟩

end Sys2Proof.Machine
end

section
/-! PROOFS. The span of one attempt (41_frame_sync R136): each evaluation of PHASE SEARCH and SYNC depends only on the windows inside
the span that it reads. -/

namespace Sys2Proof.Machine

/-- The two stores give the same windows of `ns` entries inside `[lo, hi)`. -/
def AgreeOn (ns lo hi : Nat) (rd rd' : Nat → Option (List Cx)) : Prop := ∀ a, lo ≤ a → a + ns ≤ hi → rd a = rd' a

theorem AgreeOn.mono {ns lo hi lo' hi' : Nat} {rd rd' : Nat → Option (List Cx)} (h : AgreeOn ns lo hi rd rd') (hlo : lo ≤ lo')
    (hhi : hi' ≤ hi) : AgreeOn ns lo' hi' rd rd' := fun a ha ha' => h a (hlo.trans ha) (ha'.trans hhi)

theorem mapO_congr {α β : Type} {f f' : α → Option β} {l : List α} (h : ∀ a ∈ l, f a = f' a) : mapO f l = mapO f' l := by
  induction l with
  | nil => rfl
  | cons a as ih => rw [mapO, mapO, h a List.mem_cons_self, ih fun b hb => h b (List.mem_cons_of_mem a hb)]

theorem CfgValid.os_le_ns {g : Cfg} (h : CfgValid g) : g.os ≤ g.ns := by
  rw [h.ns_eq]
  exact Nat.le_mul_of_pos_right _ h.bins_pos

theorem coarseAlign_add_le {n : Nat} (hn : 0 < n) (os q b2 : Nat) : coarseAlign n os q b2 + os ≤ q + os * n := by
  have hshift : (((n : Int) - b2) % n).toNat < n := by
    have := Int.emod_lt_of_pos ((n : Int) - b2) (Int.natCast_pos.mpr hn)
    omega
  have hmul := Nat.mul_le_mul_left os hshift
  rw [Nat.mul_succ] at hmul
  rw [coarseAlign, Nat.mul_comm _ os]
  omega

section
variable {R C : Type} (A : Arith R C) {cfg : Cfg} {rd rd' : Nat → Option (List Cx)}

theorem specAt_congr {a : Nat} (h : rd a = rd' a) (conjIn : Bool) (cf : R) :
    specAt A cfg rd conjIn cf a = specAt A cfg rd' conjIn cf a := by
  rw [specAt, specAt, h]

/-! ### The search -/

/-- The inner windows of a run aligned at `q2`, at an offset of at most half a chip (R127). -/
theorem timingMetric_congr (hos : cfg.os ≤ cfg.ns) {q q2 : Nat} (hq : q ≤ q2) (hq2 : q2 + cfg.os ≤ q + cfg.ns)
    (h : AgreeOn cfg.ns q (q + (cfg.nPre - 1) * cfg.ns) rd rd') (cf : R) {d : Int} (hlow : -((cfg.os / 2 : Nat) : Int) ≤ d)
    (hhigh : d ≤ (cfg.os / 2 : Nat)) : timingMetric A cfg rd q2 cf d = timingMetric A cfg rd' q2 cf d := by
  rw [timingMetric, timingMetric, mapO_congr fun w hw => specAt_congr A (h _ ?_ ?_) false cf]
  · have : cfg.ns ≤ (w + 1) * cfg.ns := Nat.le_mul_of_pos_left _ (Nat.succ_pos w)
    omega
  · have hinner : (w + 1 + 1 + 1) * cfg.ns ≤ (cfg.nPre - 1) * cfg.ns :=
      Nat.mul_le_mul_right _ (by have := List.mem_range.mp hw; omega)
    rw [Nat.succ_mul, Nat.succ_mul] at hinner
    omega

theorem fineTiming_congr (hos : cfg.os ≤ cfg.ns) {q q2 : Nat} (hq : q ≤ q2) (hq2 : q2 + cfg.os ≤ q + cfg.ns)
    (h : AgreeOn cfg.ns q (q + (cfg.nPre - 1) * cfg.ns) rd rd') (cf : R) :
    fineTiming A cfg rd q2 cf = fineTiming A cfg rd' q2 cf := by
  have hmetric : ∀ i ∈ List.range (2 * (cfg.os / 2) + 1),
      timingMetric A cfg rd q2 cf ((i : Int) - (cfg.os / 2 : Nat)) = timingMetric A cfg rd' q2 cf ((i : Int) - (cfg.os / 2 : Nat)) :=
    fun i hi => by
      have hlt := List.mem_range.mp hi
      exact timingMetric_congr A hos hq hq2 h cf (by omega) (by omega)
  rw [fineTiming, fineTiming, mapO_congr hmetric]

/-- The candidate at `q` reads its run of windows only. -/
theorem examine_congr (hcfg : CfgValid cfg) {q : Nat} (h : AgreeOn cfg.ns q (q + (cfg.nPre - 1) * cfg.ns) rd rd') :
    examine A cfg rd q = examine A cfg rd' q := by
  have hrun : ∀ cf : R, mapO (specAt A cfg rd false cf) ((List.range (cfg.nPre - 1)).map fun w => q + w * cfg.ns)
      = mapO (specAt A cfg rd' false cf) ((List.range (cfg.nPre - 1)).map fun w => q + w * cfg.ns) := fun cf => by
    refine mapO_congr fun a ha => ?_
    obtain ⟨w, hw, rfl⟩ := List.mem_map.mp ha
    have hwindow := Nat.mul_le_mul_right cfg.ns (Nat.succ_le_of_lt (List.mem_range.mp hw))
    rw [Nat.succ_mul] at hwindow
    exact specAt_congr A (h _ (by omega) (by omega)) false cf
  have hfine : ∀ (b2 : Nat) (cf : R), fineTiming A cfg rd (coarseAlign cfg.bins cfg.os q b2) cf
      = fineTiming A cfg rd' (coarseAlign cfg.bins cfg.os q b2) cf := fun b2 cf =>
    fineTiming_congr A hcfg.os_le_ns (le_coarseAlign _ _ _ _) (hcfg.ns_eq ▸ coarseAlign_add_le hcfg.bins_pos _ _ _) h cf
  simp only [examine, hrun, hfine]

theorem searchFrom_congr {p : Nat} {ws : List Nat}
    (h : ∀ w ∈ ws, examine A cfg rd (p + w * cfg.ns) = examine A cfg rd' (p + w * cfg.ns)) :
    searchFrom A cfg rd p ws = searchFrom A cfg rd' p ws := by
  induction ws with
  | nil => rfl
  | cons w rest ih =>
    rw [searchFrom, searchFrom, h w List.mem_cons_self, ih fun v hv => h v (List.mem_cons_of_mem w hv)]

/-- The run of the last candidate ends before `search_win` windows. -/
theorem searchAttempt_congr (hcfg : CfgValid cfg) {p : Nat} (h : AgreeOn cfg.ns p (p + cfg.searchWin * cfg.ns) rd rd') :
    searchAttempt A cfg rd p = searchAttempt A cfg rd' p := by
  refine searchFrom_congr A fun w hw => examine_congr A hcfg (h.mono (Nat.le_add_right _ _) ?_)
  rw [Nat.add_assoc, ← Nat.add_mul]
  have hpre := hcfg.nPre_ge
  have hlt := List.mem_range.mp hw
  exact Nat.add_le_add_left (Nat.mul_le_mul_right _ (by omega)) p

/-! ### Where the candidate found lies -/

/-- Fine timing moves an index on by at most half a chip (41 R127). -/
theorem fineTiming_le_half {q2 : Nat} {cf : R} {d : Int} (h : fineTiming A cfg rd q2 cf = some d) : d ≤ (cfg.os / 2 : Nat) := by
  simp only [fineTiming] at h
  split at h
  · cases h
  next ms hms =>
    have hlen := mapO_length hms
    rw [List.length_range] at hlen
    have hpeak := peak_lt A (List.ne_nil_of_length_pos (show 0 < ms.length by omega))
    obtain rfl := Option.some.inj h
    omega

/-- A found candidate is a coarse alignment and a fine timing (R121). -/
theorem fineTiming_of_examine_found {q : Nat} {q2 : Int} {cf : R} {snr : Ext R}
    (h : examine A cfg rd q = some (some (q2, cf, snr))) :
    ∃ b2 d, fineTiming A cfg rd (coarseAlign cfg.bins cfg.os q b2) cf = some d ∧ q2 = coarseAlign cfg.bins cfg.os q b2 + d := by
  simp only [examine] at h
  split at h
  · cases h
  · split at h
    · split at h
      · cases h
      · split at h
        · cases h
        next d hd =>
          obtain ⟨rfl, rfl, _⟩ : _ = q2 ∧ _ = cf ∧ _ = snr := by simpa using h
          exact ⟨_, d, hd, rfl⟩
    · cases h

/-- A found candidate lies at most one window after the index examined. -/
theorem examine_found_le (hcfg : CfgValid cfg) {q : Nat} {q2 : Int} {cf : R} {snr : Ext R}
    (h : examine A cfg rd q = some (some (q2, cf, snr))) : q2 ≤ q + cfg.ns := by
  obtain ⟨b2, d, hd, rfl⟩ := fineTiming_of_examine_found A h
  have hhigh := fineTiming_le_half A hd
  have halign := coarseAlign_add_le hcfg.bins_pos cfg.os q b2
  rw [← hcfg.ns_eq] at halign
  omega

/-- What the search finds is one of its candidates. -/
theorem examine_of_searchFrom_found {p : Nat} {ws : List Nat} {f : Found R} (h : searchFrom A cfg rd p ws = some (some f)) :
    ∃ w ∈ ws, examine A cfg rd (p + w * cfg.ns) = some (some f) := by
  induction ws with
  | nil => cases h
  | cons w rest ih =>
    rw [searchFrom] at h
    split at h
    · cases h
    next hfound => exact ⟨w, List.mem_cons_self, hfound.trans h⟩
    next =>
      obtain ⟨v, hv, hfound⟩ := ih h
      exact ⟨v, List.mem_cons_of_mem w hv, hfound⟩

/-- The last candidate has `n_pre` windows left of the `search_win`, and its alignment takes one of them. -/
theorem searchAttempt_found_le (hcfg : CfgValid cfg) {p : Nat} {q2 : Int} {cf : R} {snr : Ext R}
    (h : searchAttempt A cfg rd p = some (some (q2, cf, snr))) :
    q2 + (cfg.nPre * cfg.ns : Nat) ≤ p + ((cfg.searchWin + 1) * cfg.ns : Nat) := by
  obtain ⟨w, hw, hfound⟩ := examine_of_searchFrom_found A h
  have hle := examine_found_le A hcfg hfound
  have hlt := List.mem_range.mp hw
  have hspan : (w + 1 + cfg.nPre) * cfg.ns ≤ (cfg.searchWin + 1) * cfg.ns := Nat.mul_le_mul_right _ (by omega)
  rw [Nat.add_mul, Nat.succ_mul] at hspan
  omega

/-! ### The sync match -/

theorem findDownIn_congr {q2 : Int} {cf : R} {ws : List Nat}
    (h : ∀ w ∈ ws, rd (q2 + (w * cfg.ns : Nat)).toNat = rd' (q2 + (w * cfg.ns : Nat)).toNat) :
    findDownIn A cfg rd q2 cf ws = findDownIn A cfg rd' q2 cf ws := by
  induction ws with
  | nil => rfl
  | cons w rest ih =>
    simp only [findDownIn, specAt_congr A (h w List.mem_cons_self), ih fun v hv => h v (List.mem_cons_of_mem w hv)]

/-- SYNC_MATCH reads the windows `n_pre - 2 .. n_pre + 1` and, for the second sync symbol, the next one. -/
theorem syncAttempt_congr (p : Nat) {q2 : Int} (cf : R)
    (h : ∀ i, i ≤ 4 → rd (q2 + ((cfg.nPre - 2 + i) * cfg.ns : Nat)).toNat = rd' (q2 + ((cfg.nPre - 2 + i) * cfg.ns : Nat)).toNat) :
    syncAttempt A cfg rd p q2 cf = syncAttempt A cfg rd' p q2 cf := by
  have hdown : findDownchirp A cfg rd q2 cf = findDownchirp A cfg rd' q2 cf := by
    refine findDownIn_congr A fun w hw => ?_
    obtain ⟨i, hi, rfl⟩ := List.mem_map.mp hw
    exact h i (List.mem_range.mp hi).le
  rw [syncAttempt, syncAttempt, hdown]
  split
  · rfl
  · rfl
  next wd hwd =>
    obtain ⟨i, hi, rfl⟩ := List.mem_map.mp (findDownIn_mem hwd)
    have hlt := List.mem_range.mp hi
    have hnext : q2 + ((cfg.nPre - 2 + i) * cfg.ns : Nat) + cfg.ns = q2 + ((cfg.nPre - 2 + (i + 1)) * cfg.ns : Nat) := by
      push_cast
      ring
    simp only [hnext, specAt_congr A (h i (by omega)), specAt_congr A (h (i + 1) (by omega))]

end

/-- Settles O34: the search stays within `search_win` windows, and the sync match within the four after them. -/
theorem attemptReadsBoundedSpan : Obligations.AttemptReadsBoundedSpan := by
  rintro R C A c cfg p rd rd' hok rfl hagree
  have hcfg := freeze_valid hok
  generalize freeze c = cfg at hcfg hagree ⊢
  have hspan : AgreeOn cfg.ns p (p + (cfg.searchWin + 4) * cfg.ns) rd rd' := hagree
  refine ⟨searchAttempt_congr A hcfg (hspan.mono le_rfl ?_), fun q2 cf snr hfound => syncAttempt_congr A p cf fun i hi => ?_⟩
  · exact Nat.add_le_add_left (Nat.mul_le_mul_right _ (Nat.le_add_right _ 4)) p
  · have hlow := le_of_searchFrom_found hfound
    have hhigh := searchAttempt_found_le A hcfg hfound
    have hpre := hcfg.nPre_ge
    have hos := hcfg.os_le_ns
    have hfirst : cfg.ns ≤ (cfg.nPre - 2 + i) * cfg.ns := Nat.le_mul_of_pos_left _ (by omega)
    have hlast : (cfg.nPre - 2 + i + 1) * cfg.ns ≤ (cfg.nPre + 3) * cfg.ns := Nat.mul_le_mul_right _ (by omega)
    rw [Nat.succ_mul, Nat.add_mul cfg.nPre] at hlast
    rw [Nat.succ_mul] at hhigh
    refine hspan _ (by omega) ?_
    rw [Nat.add_mul cfg.searchWin]
    omega

end Sys2Proof.Machine
end

section
/-! PROOFS. DEMOD_SYMBOL (42_symbol_demod R150): the symbol that one readable window appends, and the starved rows. -/

namespace Sys2Proof.Machine

/-- A starved demodulation holds, or at the end of the stream drops the frame in progress (48 R235). -/
theorem starve_demod {ph : Phase} (hph : ph = .hdrDemod ∨ ph = .payDemod) (s : State) :
    starve ph s = if s.eos then
      { s with
        err := s.err ||| 0x40#32
        lastErr := 6
        sync := { s.sync with locked := false }
        hdrf := { s.hdrf with valid := false }
        phase := .done }
    else s := by
  obtain rfl | rfl := hph <;> rfl

theorem demodSymbolOp_of_starved {s : State} (h : s.avail < s.sympos + s.cfg.wlen) (ph full : Phase) :
    demodSymbolOp ph full s = starve ph s := by
  rw [demodSymbolOp, window_eq_none.mpr h]

/-- One symbol more, from a window wholly below AVAIL (R150). -/
theorem demodSymbolOp_of_le {s : State} (h : s.sympos + s.cfg.wlen ≤ s.avail) (ph full : Phase) {d : Diag}
    (hd : demodWindow s ((List.range s.cfg.wlen).map fun m => sampleAt s (s.sympos + m)) = d) :
    demodSymbolOp ph full s =
      { s with
        symbuf := s.symbuf ++ [d.kHat]
        diag := s.diag ++ [d]
        sympos := s.sympos + s.cfg.wlen
        phase := if s.symbuf.length + 1 = s.blklen then full else s.phase } := by
  obtain ⟨hlt, _⟩ | ⟨win, hwin, hop⟩ := demodSymbolOp_cases ph full s
  · exact absurd h (Nat.not_le.mpr hlt)
  · rw [hop, (window_eq_some hwin).2, hd]

/-- In INJECT mode the bin is the entry at SYMPOS (20_memory R79). -/
theorem demodWindow_of_inject {s : State} (hinj : s.cfg.inject = true) (hlen : s.cfg.wlen = 1) :
    demodWindow s ((List.range s.cfg.wlen).map fun m => sampleAt s (s.sympos + m)) = injectedDiag (binOf (sampleAt s s.sympos)) := by
  rw [demodWindow, if_pos hinj, hlen]
  rfl

/-- In sample mode the bin is the peak of the corrected spectrum (R145, R146). -/
theorem demodWindow_of_samples {s : State} (hinj : s.cfg.inject = false) {win : List Cx} {pk : List Rat}
    (hpk : pk = intCorrect machineArith s.cfg.bins s.sync.cfoInt (spectrum machineArith s.cfg false s.sync.cfoFrac win)) :
    demodWindow s win = sampledDiag s.cfg pk (peak machineArith pk) win := by
  rw [demodWindow, if_neg (by simp [hinj]), hpk]

/-- Settles O35: both rows are the one operation, by whether the window is below AVAIL and where its bin comes from. -/
theorem demodSymbolAppendsOneBin : Obligations.DemodSymbolAppendsOneBin := by
  intro s i full hrow
  obtain ⟨ph, hph, hexec⟩ : ∃ ph, (ph = .hdrDemod ∨ ph = .payDemod) ∧ exec i s = .next (demodSymbolOp ph full s) := by
    obtain ⟨rfl, rfl⟩ | ⟨rfl, rfl⟩ := hrow
    · exact ⟨_, .inl rfl, rfl⟩
    · exact ⟨_, .inr rfl, rfl⟩
  rw [hexec]
  refine ⟨fun hlt heos => ?holds, fun hlt heos => ?drops, fun hle d win pk hwin hpk hinjected hsampled => ?appends⟩
  case holds => rw [demodSymbolOp_of_starved hlt, starve_demod hph, if_neg (by simp [heos])]
  case drops => rw [demodSymbolOp_of_starved hlt, starve_demod hph, if_pos heos]
  case appends =>
    refine congrArg Host.Outcome.next (demodSymbolOp_of_le hle ph full ?_)
    cases hinj : s.cfg.inject with
    | true =>
      obtain ⟨hlen, hd⟩ := hinjected hinj
      rw [demodWindow_of_inject hinj hlen, hd, injectedDiag]
    | false => rw [← hwin, demodWindow_of_samples hinj hpk, hsampled hinj, sampledDiag]

end Sys2Proof.Machine
end

section
/-! PROOFS. The symbol map (42_symbol_demod R147 to R151): Gray coding and decoding are inverse to each other. -/

namespace Sys2Proof.Machine

theorem grayDec_zero (g : Nat) : grayDec 0 g = 0 := rfl

/-- One shift more (R149). -/
theorem grayDec_succ (n g : Nat) : grayDec (n + 1) g = grayDec n g ^^^ (g >>> n) := by
  simp [grayDec, List.range_succ]

theorem grayDec_xor (n a b : Nat) : grayDec n (a ^^^ b) = grayDec n a ^^^ grayDec n b := by
  induction n with
  | zero => simp [grayDec_zero]
  | succ n ih => simp only [grayDec_succ, ih, Nat.shiftRight_xor_distrib]; ac_rfl

theorem grayDec_shiftRight (n g k : Nat) : grayDec n (g >>> k) = grayDec n g >>> k := by
  induction n with
  | zero => simp [grayDec_zero]
  | succ n ih => simp only [grayDec_succ, ih, Nat.shiftRight_xor_distrib, ← Nat.shiftRight_add, Nat.add_comm]

/-- The shifts of a word and of the word shifted once cancel but for the first and the last. -/
theorem grayDec_telescope (n g : Nat) : grayDec n g ^^^ (grayDec n g >>> 1) = g ^^^ (g >>> n) := by
  induction n with
  | zero => simp [grayDec_zero]
  | succ n ih =>
    rw [grayDec_succ, Nat.shiftRight_xor_distrib, ← Nat.shiftRight_add]
    calc grayDec n g ^^^ g >>> n ^^^ (grayDec n g >>> 1 ^^^ g >>> (n + 1))
        = (grayDec n g ^^^ grayDec n g >>> 1) ^^^ (g >>> n ^^^ g >>> (n + 1)) := by ac_rfl
      _ = g ^^^ g >>> (n + 1) := by rw [ih, Nat.xor_assoc, Nat.xor_xor_cancel_left]

section
variable {sf x : Nat} (hx : x < 2 ^ sf)
include hx

theorem grayEnc_lt : grayEnc x < 2 ^ sf :=
  Nat.xor_lt_two_pow hx ((Nat.shiftRight_le x 1).trans_lt hx)

theorem grayDec_lt (n : Nat) : grayDec n x < 2 ^ sf := by
  induction n with
  | zero => exact Nat.two_pow_pos sf
  | succ n ih => exact grayDec_succ n x ▸ Nat.xor_lt_two_pow ih ((Nat.shiftRight_le x n).trans_lt hx)

theorem grayEnc_grayDec : grayEnc (grayDec sf x) = x := by
  rw [grayEnc, grayDec_telescope, Nat.shiftRight_eq_zero x sf hx, Nat.xor_zero]

theorem grayDec_grayEnc : grayDec sf (grayEnc x) = x := by
  rw [grayEnc, grayDec_xor, grayDec_shiftRight, ← grayEnc, grayEnc_grayDec hx]

end

/-- Settles O49: each row evaluates to its formula, and the shifts of GRAY_DEC telescope under GRAY_ENC. -/
theorem symbolMapRowsAndGrayInverse : Obligations.SymbolMapRowsAndGrayInverse := by
  refine ⟨?rows, fun sf x hx => ⟨grayEnc_lt hx, grayDec_lt hx sf, grayDec_grayEnc hx, grayEnc_grayDec hx⟩⟩
  rintro s x y rfl rfl
  exact ⟨rfl, rfl, rfl, rfl, rfl⟩

end Sys2Proof.Machine
end

section
/-! PROOFS. The exactness property (42_symbol_demod R153): over the exact reals a dechirped symbol of bin `k` is, after decimation,
the tone of bin `k` times a gain for each chip. A constant gain leaves bin `k` alone with power; the folded chirp at two samples a chip
has two gains, and bin `k` keeps the largest power. -/

namespace Sys2Proof.Machine

open Finset

/-! ### Turns on the unit circle -/

theorem cexp_eq (t : ℝ) : exactNum.cexp t = Complex.exp (2 * Real.pi * t * Complex.I) := rfl

theorem cexp_add (a b : ℝ) : exactNum.cexp (a + b) = exactNum.cexp a * exactNum.cexp b := by
  simp only [cexp_eq, ← Complex.exp_add]
  push_cast
  ring_nf

theorem cexp_eq_one_iff {t : ℝ} : exactNum.cexp t = 1 ↔ ∃ n : ℤ, t = n := by
  rw [cexp_eq, Complex.exp_eq_one_iff]
  refine exists_congr fun n => ?_
  have hturn : (2 * Real.pi * Complex.I : ℂ) ≠ 0 := Complex.two_pi_I_ne_zero
  rw [show (2 * Real.pi * t * Complex.I : ℂ) = t * (2 * Real.pi * Complex.I) by ring, mul_left_inj' hturn]
  exact_mod_cast Iff.rfl

theorem cexp_intCast (n : ℤ) : exactNum.cexp n = 1 := cexp_eq_one_iff.mpr ⟨n, rfl⟩

theorem cexp_zero : exactNum.cexp 0 = 1 := by exact_mod_cast cexp_intCast 0

theorem cexp_add_intCast (t : ℝ) (n : ℤ) : exactNum.cexp (t + n) = exactNum.cexp t := by
  rw [cexp_add, cexp_intCast, mul_one]

theorem cexp_half : exactNum.cexp (1 / 2) = -1 := by
  rw [cexp_eq, ← Complex.exp_pi_mul_I]
  push_cast
  ring_nf

theorem cexp_pow (t : ℝ) (n : ℕ) : exactNum.cexp t ^ n = exactNum.cexp (n * t) := by
  rw [cexp_eq, cexp_eq, ← Complex.exp_nat_mul]
  push_cast
  ring_nf

theorem cexp_conj (t : ℝ) : exactArith.conj (exactNum.cexp t) = exactNum.cexp (-t) := by
  have hconj : exactArith.conj (exactNum.cexp t) = (starRingEnd ℂ) (exactNum.cexp t) := rfl
  rw [hconj, cexp_eq, cexp_eq, ← Complex.exp_conj]
  simp [map_ofNat]

theorem norm_cexp (t : ℝ) : ‖exactNum.cexp t‖ = 1 := by
  rw [cexp_eq, ← Complex.norm_exp_ofReal_mul_I (2 * Real.pi * t)]
  push_cast
  rfl

theorem cexp_re (t : ℝ) : (exactNum.cexp t).re = Real.cos (2 * Real.pi * t) := by
  rw [cexp_eq, ← Complex.exp_ofReal_mul_I_re]
  push_cast
  rfl

/-- Two bins in turns of one chip: the tone of their difference does not stand still. -/
theorem cexp_bin_ne_one {n k j : ℕ} (hk : k < n) (hj : j < n) (hne : j ≠ k) : exactNum.cexp (((k : ℝ) - j) / n) ≠ 1 := by
  rw [Ne, cexp_eq_one_iff]
  rintro ⟨z, hz⟩
  have hn : (n : ℝ) ≠ 0 := by exact_mod_cast (Nat.zero_lt_of_lt hk).ne'
  rw [div_eq_iff hn] at hz
  have hmul : (k : ℤ) - j = n * z := by rw [mul_comm]; exact_mod_cast hz
  have hsmall : |(k : ℤ) - j| < n := abs_lt.mpr ⟨by omega, by omega⟩
  have hzero := Int.eq_zero_of_abs_lt_dvd ⟨z, hmul⟩ hsmall
  omega

theorem cexp_bin_pow {n : ℕ} (hn : n ≠ 0) (k j : ℕ) : exactNum.cexp (((k : ℝ) - j) / n) ^ n = 1 := by
  rw [cexp_pow, mul_div_cancel₀ _ (by exact_mod_cast hn)]
  exact_mod_cast cexp_intCast (k - j)

/-! ### The correlator over the exact reals -/

/-- The chirp reference's phase at sample `m`, in turns (40_chirp_reference R112). -/
noncomputable def refPhase (n os m : ℕ) : ℝ := ((m : ℝ) / os) ^ 2 / (2 * n) - (m : ℝ) / os / 2

theorem exactArith_chirpPhase (n os m : ℕ) :
    exactArith.ofRat (chirpPhase n ((m : Rat) / (os : Rat))) = refPhase n os m := by
  have hcast : ∀ q : Rat, exactArith.ofRat q = (q : ℝ) := fun _ => rfl
  rw [hcast, chirpPhase_eq, refPhase]
  push_cast
  rfl

theorem csum_exactArith (f : ℕ → ℂ) (n : ℕ) : csum exactArith ((List.range n).map f) = ∑ i ∈ range n, f i := by
  have hsum : ∀ l : List ℂ, csum exactArith l = l.sum := by
    rintro (_ | ⟨x, xs⟩)
    · simp [csum, czero, exactArith, Complex.ext_iff]
    · rw [List.sum_eq_foldl, List.foldl_cons, zero_add]
      rfl
  rw [hsum]
  rfl

/-- Bin `j` of a list of `n` values (R143). -/
theorem exactArith_fft (n j : ℕ) (y : ℕ → ℂ) :
    exactArith.fft n ((List.range n).map y) j = ∑ i ∈ range n, y i * exactNum.cexp (-((i : ℝ) * j / n)) := by
  have hsum : exactArith.fft n ((List.range n).map y) j = ∑ i ∈ range n, ((List.range n).map y).getD i 0
      * Complex.exp (-(2 * Real.pi * ((i * j : ℕ) : ℝ) / (n : ℝ) * Complex.I)) := rfl
  rw [hsum]
  refine Finset.sum_congr rfl fun i hi => ?_
  rw [getD_map_range _ (mem_range.mp hi), cexp_eq]
  push_cast
  ring_nf

/-- The raw bin of a window over the exact reals, without frequency offset (R141 to R146). -/
noncomputable def exactBin (cfg : Cfg) (win : List ℂ) : ℕ :=
  peak exactArith (intCorrect exactArith cfg.bins 0 (correlate exactArith cfg false (0 : ℝ) win))

/-- The window whose phase is the reference's and `ψ`. -/
noncomputable def phaseWindow (n os : ℕ) (ψ : ℕ → ℝ) : List ℂ :=
  (List.range (os * n)).map fun m => exactNum.cexp (refPhase n os m + ψ m)

/-- The `n` values that DECIMATE makes of a dechirped window with phases `ψ` (R142). -/
noncomputable def decimatedAt (sub : Bool) (os : ℕ) (ψ : ℕ → ℝ) (i : ℕ) : ℂ :=
  if sub then exactNum.cexp (ψ (i * os)) else ∑ q ∈ range os, exactNum.cexp (ψ (i * os + q))

theorem decimate_exactArith (sub : Bool) (n : ℕ) {os : ℕ} (hos : 1 ≤ os) (ψ : ℕ → ℝ) :
    decimate exactArith sub n os ((List.range (os * n)).map fun m => exactNum.cexp (ψ m))
      = (List.range n).map (decimatedAt sub os ψ) := by
  rw [decimate_of_entries exactArith sub hos fun m hm => cxAt_map_range exactArith _ hm]
  refine List.map_congr_left fun i _ => ?_
  rw [decimatedAt, ← csum_exactArith, csum, sumOf_map_range _ _ _ hos, Nat.add_zero]

/-- The correlator on a window with the reference's phase and `ψ` (R141): the reference cancels. -/
theorem correlate_of_phase {cfg : Cfg} (hos : 1 ≤ cfg.os) (ψ : ℕ → ℝ) :
    correlate exactArith cfg false (0 : ℝ) (phaseWindow cfg.bins cfg.os ψ)
      = dft exactArith cfg.bins ((List.range cfg.bins).map (decimatedAt cfg.decimSub cfg.os ψ)) := by
  have hdechirp : ∀ m, exactArith.cmul
      (exactArith.cmul (exactNum.cexp (refPhase cfg.bins cfg.os m + ψ m))
        (exactArith.cexp (exactArith.rmul 0 (exactArith.ofRat (-((m : Rat) / (cfg.ns : Rat)))))))
      (exactArith.conj (exactArith.cexp (exactArith.ofRat (chirpPhase cfg.bins ((m : Rat) / (cfg.os : Rat))))))
        = exactNum.cexp (ψ m) := fun m => by
    rw [exactArith_chirpPhase]
    have hzero : exactArith.cexp (exactArith.rmul 0 (exactArith.ofRat (-((m : Rat) / (cfg.ns : Rat))))) = 1 :=
      (congrArg exactNum.cexp (zero_mul _)).trans cexp_zero
    rw [hzero]
    calc exactNum.cexp (refPhase cfg.bins cfg.os m + ψ m) * 1 * exactArith.conj (exactNum.cexp (refPhase cfg.bins cfg.os m))
        = exactNum.cexp (refPhase cfg.bins cfg.os m + ψ m + -refPhase cfg.bins cfg.os m) := by rw [cexp_conj, mul_one, ← cexp_add]
      _ = exactNum.cexp (ψ m) := by rw [add_neg_cancel_comm]
  rw [correlate, phaseWindow, fracCorrect_map_range, refDown_eq]
  simp only [Bool.false_eq_true, ↓reduceIte, List.zipWith_map, List.zipWith_self, hdechirp]
  rw [decimate_exactArith _ _ hos]

/-- The tone's window adds `k*m/Ns` turns to the reference (R153). -/
theorem toneWindow_eq (n os k : ℕ) :
    toneWindow n os k = phaseWindow n os fun m => (k : ℝ) * m / ((os * n : ℕ) : ℝ) := by
  rw [toneWindow, refUp, List.zipWith_map, List.zipWith_self]
  refine List.map_congr_left fun m _ => ?_
  rw [exactArith_chirpPhase, cexp_add]
  rfl

/-- What `up(k)` adds to the reference at sample `m`, in turns: the tone of bin `k`, folded by one turn a chip from chip `n - k` on
(41_frame_sync R120). -/
noncomputable def foldedPhase (n os k m : ℕ) : ℝ := (k : ℝ) / n * ((m : ℝ) / os) - max 0 ((m : ℝ) / os - ((n : ℝ) - k))

theorem upSymbol_eq (n os k : ℕ) : upSymbol n os k = phaseWindow n os (foldedPhase n os k) := by
  refine List.map_congr_left fun m _ => congrArg exactNum.cexp ?_
  simp only [refPhase, foldedPhase]
  ring

/-! ### Gains -/

/-- Bin `j` of `n` values that are the tone of bin `k` times the gain `g` of each chip. -/
noncomputable def gainBin (n k : ℕ) (g : ℕ → ℂ) (j : ℕ) : ℂ := ∑ i ∈ range n, g i * exactNum.cexp (((k : ℝ) - j) / n) ^ i

/-- The powers of such values (R143, R145). -/
theorem powers_of_gains {n k : ℕ} {y g : ℕ → ℂ} (hy : ∀ i, i < n → y i = g i * exactNum.cexp ((k : ℝ) * i / n)) :
    intCorrect exactArith n 0 (dft exactArith n ((List.range n).map y))
      = (List.range n).map fun j => Complex.normSq (gainBin n k g j) := by
  refine List.map_congr_left fun j hj => congrArg Complex.normSq ?_
  have hj := List.mem_range.mp hj
  rw [add_zero, ← Int.natCast_mod, Int.toNat_natCast, Nat.mod_eq_of_lt hj, dft, cxAt_map_range _ _ hj, exactArith_fft]
  refine Finset.sum_congr rfl fun i hi => ?_
  rw [hy i (mem_range.mp hi), mul_assoc, ← cexp_add, cexp_pow]
  ring_nf

/-- The peak of powers of which one exceeds all others. -/
theorem peak_eq_of_lt {n k : ℕ} (hk : k < n) {f : ℕ → ℝ} (hlt : ∀ j, j < n → j ≠ k → f j < f k) :
    peak exactArith ((List.range n).map f) = k := by
  have hmem : f k ∈ (List.range n).map f := List.mem_map_of_mem (List.mem_range.mpr hk)
  have hpeak := peak_isLowestArgmax exactArith_rlt (List.ne_nil_of_mem hmem) 0
  generalize peak exactArith ((List.range n).map f) = p at hpeak ⊢
  obtain ⟨hp, hmax, _⟩ := hpeak
  simp only [List.length_map, List.length_range] at hp hmax
  by_contra hne
  have hbest := hmax k hk
  rw [getD_map_range _ hk, getD_map_range _ hp] at hbest
  exact absurd (hlt p hp hne) (not_lt.mpr hbest)

/-- A dechirped window whose decimated values are tones of bin `k` demodulates to `k`, if its gains leave bin `k` the largest
power. -/
theorem exactBin_of_gains {cfg : Cfg} (hos : 1 ≤ cfg.os) {k : ℕ} (hk : k < cfg.bins) {ψ : ℕ → ℝ} {g : ℕ → ℂ}
    (hg : ∀ i, i < cfg.bins → decimatedAt cfg.decimSub cfg.os ψ i = g i * exactNum.cexp ((k : ℝ) * i / cfg.bins))
    (hlt : ∀ j, j < cfg.bins → j ≠ k → Complex.normSq (gainBin cfg.bins k g j) < Complex.normSq (gainBin cfg.bins k g k)) :
    exactBin cfg (phaseWindow cfg.bins cfg.os ψ) = k := by
  rw [exactBin, correlate_of_phase hos, powers_of_gains hg, peak_eq_of_lt hk hlt]

/-- Over all chips the other tones sum to 0. -/
theorem sum_bin_pow_eq_zero {n k j : ℕ} (hk : k < n) (hj : j < n) (hne : j ≠ k) :
    ∑ i ∈ range n, exactNum.cexp (((k : ℝ) - j) / n) ^ i = 0 := by
  rw [geom_sum_eq (cexp_bin_ne_one hk hj hne), cexp_bin_pow (Nat.ne_zero_of_lt hk), sub_self, zero_div]

theorem gainBin_self (n k : ℕ) (g : ℕ → ℂ) : gainBin n k g k = ∑ i ∈ range n, g i := by
  simp [gainBin, cexp_zero]

/-! ### One gain -/

/-- With the same gain at each chip only bin `k` has power (R153). -/
theorem exactBin_of_constant_gain {cfg : Cfg} (hos : 1 ≤ cfg.os) {k : ℕ} (hk : k < cfg.bins) {ψ : ℕ → ℝ} {g : ℂ} (hne : g ≠ 0)
    (hg : ∀ i, i < cfg.bins → decimatedAt cfg.decimSub cfg.os ψ i = g * exactNum.cexp ((k : ℝ) * i / cfg.bins)) :
    exactBin cfg (phaseWindow cfg.bins cfg.os ψ) = k := by
  refine exactBin_of_gains hos hk hg fun j hj hjk => ?_
  have hother : gainBin cfg.bins k (fun _ => g) j = 0 := by
    rw [gainBin, ← Finset.mul_sum, sum_bin_pow_eq_zero hk hj hjk, mul_zero]
  have hself : gainBin cfg.bins k (fun _ => g) k ≠ 0 := by
    rw [gainBin_self, sum_const, card_range, nsmul_eq_mul]
    exact mul_ne_zero (Nat.cast_ne_zero.mpr (Nat.ne_zero_of_lt hk)) hne
  rw [hother, map_zero]
  exact Complex.normSq_pos.mpr hself

/-- The gain of SUM on a tone (R153): the partial sum over one block is 0 for no bin. -/
theorem toneGain_ne_zero {n os k : ℕ} (hos : 1 ≤ os) (hk : k < n) :
    ∑ q ∈ range os, exactNum.cexp ((k : ℝ) * q / ((os * n : ℕ) : ℝ)) ≠ 0 := by
  have hos' : (os : ℝ) ≠ 0 := Nat.cast_ne_zero.mpr (by omega)
  have hpow : ∀ q : ℕ, exactNum.cexp ((k : ℝ) * q / ((os * n : ℕ) : ℝ)) = exactNum.cexp ((k : ℝ) / ((os * n : ℕ) : ℝ)) ^ q :=
    fun q => by rw [cexp_pow, mul_comm (k : ℝ), mul_div_assoc]
  simp only [hpow]
  intro hzero
  have hone : exactNum.cexp ((k : ℝ) / ((os * n : ℕ) : ℝ)) ^ os = 1 := by
    rw [← sub_eq_zero, ← geom_sum_mul, hzero, zero_mul]
  have hturn : exactNum.cexp (((k : ℝ) - (0 : ℕ)) / n) = 1 := by
    rw [← hone, cexp_pow, Nat.cast_zero, sub_zero, Nat.cast_mul]
    congr 1
    field_simp
  obtain rfl : k = 0 := by
    by_contra hk0
    exact cexp_bin_ne_one hk (Nat.zero_lt_of_lt hk) (Ne.symm hk0) hturn
  have hcount : (os : ℂ) = 0 := by simpa [cexp_zero] using hzero
  exact hos' (by exact_mod_cast hcount)

/-- The tone's window demodulates to its bin, with both ways of decimating. -/
theorem exactBin_toneWindow {cfg : Cfg} (hos : 1 ≤ cfg.os) {k : ℕ} (hk : k < cfg.bins) :
    exactBin cfg (toneWindow cfg.bins cfg.os k) = k := by
  have hos' : (cfg.os : ℝ) ≠ 0 := Nat.cast_ne_zero.mpr (by omega)
  have hchip : ∀ i q : ℕ, exactNum.cexp ((k : ℝ) * ((i * cfg.os + q : ℕ) : ℝ) / ((cfg.os * cfg.bins : ℕ) : ℝ))
      = exactNum.cexp ((k : ℝ) * q / ((cfg.os * cfg.bins : ℕ) : ℝ)) * exactNum.cexp ((k : ℝ) * i / cfg.bins) := fun i q => by
    rw [← cexp_add]
    congr 1
    push_cast
    field_simp
    ring
  rw [toneWindow_eq]
  cases hsub : cfg.decimSub with
  | true =>
    refine exactBin_of_constant_gain hos hk one_ne_zero fun i _ => ?_
    rw [decimatedAt, if_pos hsub]
    simpa [cexp_zero] using hchip i 0
  | false =>
    refine exactBin_of_constant_gain hos hk (toneGain_ne_zero hos hk) fun i _ => ?_
    rw [decimatedAt, if_neg (by simp [hsub]), Finset.sum_mul]
    exact Finset.sum_congr rfl fun q _ => hchip i q

/-! ### The folded chirp -/

/-- At the start of a chip the fold is a number of whole turns. -/
theorem cexp_foldedPhase_chip {n os : ℕ} (hos : 1 ≤ os) (k i : ℕ) :
    exactNum.cexp (foldedPhase n os k (i * os)) = exactNum.cexp ((k : ℝ) * i / n) := by
  have hos' : (os : ℝ) ≠ 0 := Nat.cast_ne_zero.mpr (by omega)
  have hphase : foldedPhase n os k (i * os) = (k : ℝ) * i / n + ((-max 0 ((i : ℤ) - (n - k)) : ℤ) : ℝ) := by
    rw [foldedPhase, Nat.cast_mul, mul_div_cancel_right₀ _ hos']
    push_cast
    ring
  rw [hphase, cexp_add_intCast]

/-- With one sample taken from each chip the folded chirp is the tone. -/
theorem exactBin_upSymbol_of_single {cfg : Cfg} (hos : 1 ≤ cfg.os) (hsingle : cfg.decimSub = true ∨ cfg.os = 1) {k : ℕ}
    (hk : k < cfg.bins) : exactBin cfg (upSymbol cfg.bins cfg.os k) = k := by
  rw [upSymbol_eq]
  refine exactBin_of_constant_gain hos hk one_ne_zero fun i _ => ?_
  rw [one_mul, ← cexp_foldedPhase_chip hos, decimatedAt]
  split
  · rfl
  next hsum =>
    have hone := hsingle.resolve_left hsum
    simp [hone]

/-- The tone of bin `k` over half a chip. -/
noncomputable def halfChip (n k : ℕ) : ℂ := exactNum.cexp ((k : ℝ) / (2 * n))

/-- Half a chip later the tone has turned on by half a chip, and from chip `n - k` on the fold has taken half a turn. -/
theorem cexp_foldedPhase_half {n k : ℕ} (hk : k < n) (i : ℕ) :
    exactNum.cexp (foldedPhase n 2 k (i * 2 + 1))
      = (if i < n - k then halfChip n k else -halfChip n k) * exactNum.cexp ((k : ℝ) * i / n) := by
  have htime : ((i * 2 + 1 : ℕ) : ℝ) / (2 : ℕ) = i + 1 / 2 := by push_cast; ring
  rw [foldedPhase, htime, halfChip]
  split
  next hbefore =>
    have hle : (i : ℝ) + 1 ≤ n - k := by
      rw [← Nat.cast_sub hk.le]
      exact_mod_cast hbefore
    rw [max_eq_left (by linarith), ← cexp_add]
    congr 1
    ring
  next hafter =>
    have hle : (n : ℝ) - k ≤ i := by
      rw [← Nat.cast_sub hk.le]
      exact_mod_cast not_lt.mp hafter
    have hphase : (k : ℝ) / n * (i + 1 / 2) - ((i : ℝ) + 1 / 2 - (n - k))
        = 1 / 2 + k / (2 * n) + k * i / n + (((n : ℤ) - k - i - 1 : ℤ) : ℝ) := by
      push_cast
      ring
    rw [max_eq_right (by linarith), hphase, cexp_add_intCast, cexp_add, cexp_add, cexp_half, neg_one_mul]

/-! ### Two gains -/

/-- The gain `1 + u` on the first `m` chips and `1 - u` on the rest. -/
noncomputable def splitGain (u : ℂ) (m i : ℕ) : ℂ := if i < m then 1 + u else 1 - u

/-- The partial sum over the first `m` chips carries what the two gains differ in. -/
theorem sum_splitGain (u z : ℂ) {m n : ℕ} (hm : m ≤ n) :
    ∑ i ∈ range n, splitGain u m i * z ^ i = (1 - u) * ∑ i ∈ range n, z ^ i + 2 * u * ∑ i ∈ range m, z ^ i := by
  have hterm : ∀ i, splitGain u m i * z ^ i = (1 - u) * z ^ i + if i < m then 2 * u * z ^ i else 0 := fun i => by
    rw [splitGain]
    split <;> ring
  have hfirst : (range n).filter (· < m) = range m := by
    ext i
    simp only [mem_filter, mem_range]
    omega
  simp only [hterm]
  rw [sum_add_distrib, ← sum_filter, hfirst, ← Finset.mul_sum, ← Finset.mul_sum]

/-- The tone over half a chip lies in the right half-plane before `n / 2` and in the left one after it. -/
theorem mul_halfChip_re_nonneg {n k : ℕ} (hk : k < n) : 0 ≤ ((n : ℝ) - 2 * k) * (halfChip n k).re := by
  have hn : (0 : ℝ) < n := Nat.cast_pos.mpr (Nat.zero_lt_of_lt hk)
  have hpi := Real.pi_pos
  have hangle : 2 * Real.pi * ((k : ℝ) / (2 * n)) = Real.pi * (k / n) := by field_simp
  rw [halfChip, cexp_re, hangle]
  have hlow : (0 : ℝ) ≤ k / n := by positivity
  have hhigh : (k : ℝ) / n ≤ 1 := (div_le_one hn).mpr (Nat.cast_le.mpr hk.le)
  obtain hleft | hright := le_total (2 * (k : ℝ)) n
  · have hquarter : (k : ℝ) / n ≤ 1 / 2 := by rw [div_le_iff₀ hn]; linarith
    exact mul_nonneg (by linarith) (Real.cos_nonneg_of_neg_pi_div_two_le_of_le (by nlinarith) (by nlinarith))
  · have hquarter : 1 / 2 ≤ (k : ℝ) / n := by rw [le_div_iff₀ hn]; linarith
    exact mul_nonneg_of_nonpos_of_nonpos (by linarith)
      (Real.cos_nonpos_of_pi_div_two_le_of_le (by nlinarith) (by nlinarith))

/-- Bin `k` under two gains. -/
theorem normSq_gainBin_self {n k : ℕ} (hk : k < n) (u : ℂ) (hu : ‖u‖ = 1) :
    Complex.normSq (gainBin n k (splitGain u (n - k)) k)
      = (n : ℝ) ^ 2 + ((n : ℝ) - 2 * k) ^ 2 + 2 * n * (((n : ℝ) - 2 * k) * u.re) := by
  have hsum : gainBin n k (splitGain u (n - k)) k = n + ((n : ℝ) - 2 * k : ℝ) * u := by
    have hone := sum_splitGain u 1 (Nat.sub_le n k)
    simp only [one_pow, mul_one, sum_const, card_range, nsmul_eq_mul, Nat.cast_sub hk.le] at hone
    rw [gainBin_self, hone]
    push_cast
    ring
  have hunit : u.re ^ 2 + u.im ^ 2 = 1 := by rw [← Complex.sq_norm_sub_sq_re, hu]; ring
  rw [hsum, Complex.normSq_apply]
  simp only [Complex.add_re, Complex.add_im, Complex.re_ofReal_mul, Complex.im_ofReal_mul, Complex.natCast_re, Complex.natCast_im]
  linear_combination ((n : ℝ) - 2 * k) ^ 2 * hunit

/-- Another bin under two gains. -/
theorem normSq_gainBin_other {n k j : ℕ} (hk : k < n) (hj : j < n) (hne : j ≠ k) {u : ℂ} (hu : ‖u‖ = 1) :
    Complex.normSq (gainBin n k (splitGain u (n - k)) j)
      = 4 * ‖∑ i ∈ range (n - k), exactNum.cexp (((k : ℝ) - j) / n) ^ i‖ ^ 2 := by
  rw [gainBin, sum_splitGain u _ (Nat.sub_le n k), sum_bin_pow_eq_zero hk hj hne, mul_zero, zero_add, Complex.normSq_eq_norm_sq,
    norm_mul, norm_mul, hu]
  norm_num
  ring

/-- A partial sum of powers on the unit circle has at most the length of its terms. -/
theorem norm_sum_pow_le {z : ℂ} (hz : ‖z‖ = 1) (s : Finset ℕ) : ‖∑ i ∈ s, z ^ i‖ ≤ s.card := by
  simpa [hz] using norm_sum_le s fun i => z ^ i

/-- Two different terms do not point the same way. -/
theorem norm_sum_pow_lt {z : ℂ} (hz : ‖z‖ = 1) (hne : z ≠ 1) {m : ℕ} (hm : 2 ≤ m) : ‖∑ i ∈ range m, z ^ i‖ < m := by
  have hfirst : ‖1 + z‖ < 2 := by
    have hray : ¬ SameRay ℝ 1 z := by
      rw [sameRay_iff_of_norm_eq (by rw [hz, norm_one])]
      exact hne.symm
    have hlt := not_sameRay_iff_norm_add_lt.mp hray
    rw [hz, norm_one] at hlt
    linarith
  have hrest := norm_sum_pow_le hz (Ico 2 m)
  rw [Nat.card_Ico, Nat.cast_sub hm, Nat.cast_two] at hrest
  have hsplit : ∑ i ∈ range m, z ^ i = (1 + z) + ∑ i ∈ Ico 2 m, z ^ i := by
    rw [← sum_range_add_sum_Ico _ hm]
    simp [sum_range_succ]
  rw [hsplit]
  linarith [norm_add_le (1 + z) (∑ i ∈ Ico 2 m, z ^ i)]

/-- Where the whole sum is 0, the partial sum is bounded by both parts of the window, and strictly where they are equal. -/
theorem norm_partialSum_sq_lt {z : ℂ} (hz : ‖z‖ = 1) (hne : z ≠ 1) {n k : ℕ} (hn : 4 ≤ n) (hk : k < n)
    (hzero : ∑ i ∈ range n, z ^ i = 0) :
    4 * ‖∑ i ∈ range (n - k), z ^ i‖ ^ 2 < (n : ℝ) ^ 2 + ((n : ℝ) - 2 * k) ^ 2 := by
  have hfirst := norm_sum_pow_le hz (range (n - k))
  have hlast := norm_sum_pow_le hz (Ico (n - k) n)
  rw [← sum_range_add_sum_Ico _ (Nat.sub_le n k), add_comm] at hzero
  rw [eq_neg_of_add_eq_zero_left hzero, norm_neg, Nat.card_Ico, Nat.sub_sub_self hk.le] at hlast
  rw [card_range, Nat.cast_sub hk.le] at hfirst
  have hpos := norm_nonneg (∑ i ∈ range (n - k), z ^ i)
  obtain hhalf | hhalf := eq_or_ne n (2 * k)
  · have hstrict := norm_sum_pow_lt hz hne (m := n - k) (by omega)
    have hprod := mul_self_lt_mul_self hpos hstrict
    have hnk : (n : ℝ) = 2 * k := by exact_mod_cast hhalf
    rw [Nat.cast_sub hk.le, hnk] at hprod
    rw [hnk]
    linarith
  · have hprod : ‖∑ i ∈ range (n - k), z ^ i‖ * ‖∑ i ∈ range (n - k), z ^ i‖ ≤ (n - k) * k :=
      mul_le_mul hfirst hlast hpos (hpos.trans hfirst)
    have hsq : 0 < ((n : ℝ) - 2 * k) ^ 2 := sq_pos_of_ne_zero (sub_ne_zero.mpr (by exact_mod_cast hhalf))
    linarith

/-- The other bins stay below bin `k`. -/
theorem normSq_gainBin_lt {n k j : ℕ} (hn : 4 ≤ n) (hk : k < n) (hj : j < n) (hne : j ≠ k) :
    Complex.normSq (gainBin n k (splitGain (halfChip n k) (n - k)) j)
      < Complex.normSq (gainBin n k (splitGain (halfChip n k) (n - k)) k) := by
  have hunit : ‖halfChip n k‖ = 1 := norm_cexp _
  have hcross := mul_nonneg n.cast_nonneg (mul_halfChip_re_nonneg hk)
  have hother := norm_partialSum_sq_lt (norm_cexp _) (cexp_bin_ne_one hk hj hne) hn hk (sum_bin_pow_eq_zero hk hj hne)
  rw [normSq_gainBin_self hk _ hunit, normSq_gainBin_other hk hj hne hunit]
  linarith

/-- The folded chirp with SUM and two samples a chip. -/
theorem exactBin_upSymbol_of_two {cfg : Cfg} (hos : cfg.os = 2) (hsub : cfg.decimSub = false) {k : ℕ} (hn : 4 ≤ cfg.bins)
    (hk : k < cfg.bins) : exactBin cfg (upSymbol cfg.bins cfg.os k) = k := by
  rw [upSymbol_eq]
  refine exactBin_of_gains (by omega) hk (fun i _ => ?_) fun j hj hne => normSq_gainBin_lt hn hk hj hne
  have hchip := cexp_foldedPhase_chip (n := cfg.bins) (os := 2) one_le_two k i
  rw [decimatedAt, if_neg (by simp [hsub]), hos, sum_range_succ, sum_range_one, add_zero, hchip, cexp_foldedPhase_half hk,
    splitGain]
  split <;> ring

/-- Settles O58: the tone has one gain, the folded chirp one gain where one sample a chip is read, and two with SUM of two. -/
theorem exactDemodulatorReturnsTheBin : Obligations.ExactDemodulatorReturnsTheBin := by
  intro cfg k hsf _ hbins hos _ hk
  refine ⟨exactBin_toneWindow hos hk, fun hdecim => ?_⟩
  by_cases hsingle : cfg.decimSub = true ∨ cfg.os = 1
  · exact exactBin_upSymbol_of_single hos hsingle hk
  · obtain ⟨hsub, hone⟩ := not_or.mp hsingle
    have htwo : cfg.os = 2 := by
      have := hdecim.resolve_right hsub
      omega
    have hn : 4 ≤ cfg.bins := hbins ▸ Nat.pow_le_pow_right two_pos (show 2 ≤ cfg.sf by omega)
    exact exactBin_upSymbol_of_two htwo (Bool.eq_false_of_not_eq_true hsub) hn hk

end Sys2Proof.Machine
end

section
/-! PROOFS. The diagonal interleaver of 43_deinterleave_hamming (R161 to R164): each function is read bit by bit, and that the two
directions of the diagonal are inverse is one congruence of the indices. -/

namespace Sys2Proof.Machine

/-! ### Bits, most significant first, as a number -/

theorem ofBits_concat (l : List Bool) (b : Bool) : ofBits (l ++ [b]) = 2 * ofBits l + b.toNat := by simp [ofBits]

theorem ofBits_lt (l : List Bool) : ofBits l < 2 ^ l.length := by
  induction l using List.reverseRecOn with
  | nil => exact Nat.one_pos
  | append_singleton l b ih =>
    have hb := Bool.toNat_le b
    rw [ofBits_concat, List.length_append, List.length_singleton, Nat.pow_succ]
    omega

/-- The bits are the list read from its end. -/
theorem testBit_ofBits (l : List Bool) (k : Nat) : (ofBits l).testBit k = l.reverse.getD k false := by
  induction l using List.reverseRecOn generalizing k with
  | nil => simp [ofBits]
  | append_singleton l b ih =>
    rw [ofBits_concat, ← Nat.bit_val]
    cases k with
    | zero => simp
    | succ k => rw [Nat.testBit_bit_succ, ih k]; simp

theorem testBit_ofBits_msb {l : List Bool} {i : Nat} (hi : i < l.length) : (ofBits l).testBit (l.length - 1 - i) = l.getD i false := by
  rw [testBit_ofBits, List.getD_eq_getElem _ _ (by simp; omega), List.getD_eq_getElem _ _ hi, List.getElem_reverse]
  congr 1
  omega

/-- A number below `2^w` is known by its `w` bits, counted from the most significant one. -/
theorem eq_of_testBit_msb {w a b : Nat} (ha : a < 2 ^ w) (hb : b < 2 ^ w)
    (h : ∀ i, i < w → a.testBit (w - 1 - i) = b.testBit (w - 1 - i)) : a = b := by
  refine Nat.eq_of_testBit_eq fun k => ?_
  rcases Nat.lt_or_ge k w with hk | hk
  · simpa [show w - 1 - (w - 1 - k) = k by omega] using h (w - 1 - k) (by omega)
  · have hle := Nat.pow_le_pow_right two_pos hk
    rw [Nat.testBit_lt_two_pow (ha.trans_le hle), Nat.testBit_lt_two_pow (hb.trans_le hle)]

/-! ### The diagonal -/

theorem toNat_emod_eq_iff {n r : Nat} (hr : r < n) (z : Int) : (z % n).toNat = r ↔ (n : Int) ∣ r - z := by
  have hnonneg : 0 ≤ z % n := Int.emod_nonneg z (by omega)
  have hself : (r : Int) % n = r := Int.emod_eq_of_lt (by omega) (by omega)
  rw [← Int.modEq_iff_dvd, Int.ModEq, hself]
  omega

/-- Row `r` takes bit `j` of symbol `i` (43 R162) where `r = (i - j - 1) mod n`; by the closed form it reads bit `(r - i) mod n`, counted
from the least significant end. -/
theorem diagonal_row_iff {n r i j : Nat} (hr : r < n) (hj : j < n) :
    (((i : Int) - j - 1) % n).toNat = r ↔ (((r : Int) - i) % n).toNat = n - 1 - j := by
  rw [toNat_emod_eq_iff hr, toNat_emod_eq_iff (by omega : n - 1 - j < n), ← dvd_neg, ← Int.dvd_add_right (dvd_refl (n : Int))]
  congr! 1
  omega

theorem toNat_emod_lt {n : Nat} (hn : 0 < n) (z : Int) : (z % n).toNat < n := by
  have hnonneg := Int.emod_nonneg z (Int.natCast_ne_zero.mpr hn.ne')
  have hlt := Int.emod_lt_of_pos z (Int.natCast_pos.mpr hn)
  omega

/-! ### DEINTERLEAVE and INTERLEAVE, bit by bit -/

theorem testBit_interBin {sfApp i j : Nat} {v : List Nat} (hi : i < v.length) (hj : j < sfApp) :
    ((interBin sfApp v).getD i []).getD j false = (v.getD i 0).testBit (sfApp - 1 - j) := by
  simp [interBin, List.getD_eq_getElem?_getD, hi, hj]

theorem deinterRow_length (sfApp : Nat) (v : List Nat) (r : Nat) : (deinterRow sfApp v r).length = v.length := by simp [deinterRow]

theorem getD_deinterleave {sfApp r : Nat} (v : List Nat) (d : Nat) (hr : r < sfApp) :
    (deinterleave sfApp v).getD r d = ofBits (deinterRow sfApp v r) := by
  simp [deinterleave, List.getD_eq_getElem?_getD, hr]

theorem lt_of_mem_deinterleave {sfApp c : Nat} {v : List Nat} (hc : c ∈ deinterleave sfApp v) : c < 2 ^ v.length := by
  obtain ⟨r, _, rfl⟩ := List.mem_map.mp hc
  exact deinterRow_length sfApp v r ▸ ofBits_lt _

/-- Bit `W - 1 - i` of row `r` is bit `(r - i) mod sf_app` of symbol `i` (43 R162, closed form). -/
theorem testBit_deinterleave {sfApp r i : Nat} {v : List Nat} (hr : r < sfApp) (hi : i < v.length) :
    ((deinterleave sfApp v).getD r 0).testBit (v.length - 1 - i) = (v.getD i 0).testBit (((r : Int) - i) % sfApp).toNat := by
  have hmsb := testBit_ofBits_msb (l := deinterRow sfApp v r) (i := i) (by rwa [deinterRow_length])
  rw [deinterRow_length] at hmsb
  rw [getD_deinterleave v 0 hr, hmsb]
  simp [deinterRow, List.getD_eq_getElem?_getD, hi]

/-- The same, by the row that bit `j` of symbol `i` goes to (43 R162). -/
theorem testBit_deinterleave_diagonal {sfApp i j : Nat} {v : List Nat} (hi : i < v.length) (hj : j < sfApp) :
    ((deinterleave sfApp v).getD (((i : Int) - j - 1) % sfApp).toNat 0).testBit (v.length - 1 - i)
      = (v.getD i 0).testBit (sfApp - 1 - j) := by
  have hr := toNat_emod_lt (Nat.zero_lt_of_lt hj) ((i : Int) - j - 1)
  rw [testBit_deinterleave hr hi, (diagonal_row_iff hr hj).mp rfl]

theorem interleave_length (w : Nat) (rows : List Nat) : (interleave w rows).length = w := by simp [interleave]

theorem lt_of_mem_interleave {w x : Nat} {rows : List Nat} (hx : x ∈ interleave w rows) : x < 2 ^ rows.length := by
  obtain ⟨i, _, rfl⟩ := List.mem_map.mp hx
  exact (ofBits_lt _).trans_eq (by simp)

/-- INTERLEAVE's formula (43 R164). -/
theorem testBit_interleave {w i j : Nat} {rows : List Nat} (hi : i < w) (hj : j < rows.length) :
    ((interleave w rows).getD i 0).testBit (rows.length - 1 - j)
      = (rows.getD (((i : Int) - j - 1) % (rows.length : Int)).toNat 0).testBit (w - 1 - i) := by
  have hmsb := testBit_ofBits_msb (i := j) (l := (List.range rows.length).map fun (j : Nat) =>
    (rows.getD (((i : Int) - j - 1) % (rows.length : Int)).toNat 0).testBit (w - 1 - i)) (by simpa using hj)
  rw [List.length_map, List.length_range] at hmsb
  simpa [interleave, List.getD_eq_getElem?_getD, hi, hj] using hmsb

/-! ### The two directions are inverse -/

theorem list_ext_getD {l m : List Nat} (hlen : l.length = m.length) (h : ∀ i, i < m.length → l.getD i 0 = m.getD i 0) : l = m :=
  List.ext_getElem hlen fun i hl hm => by simpa [hl, hm] using h i hm

theorem getD_mem {l : List Nat} {i : Nat} (hi : i < l.length) : l.getD i 0 ∈ l := by simp [hi]

theorem deinterleave_interleave {w : Nat} {rows : List Nat} (hrows : ∀ c ∈ rows, c < 2 ^ w) :
    deinterleave rows.length (interleave w rows) = rows := by
  refine list_ext_getD (deinterleave_length _ _) fun r hr => ?_
  have hlen := interleave_length w rows
  refine eq_of_testBit_msb (w := w) ?_ (hrows _ (getD_mem hr)) fun i hi => ?_
  · exact (lt_of_mem_deinterleave (getD_mem (by rwa [deinterleave_length]))).trans_eq (by rw [hlen])
  · have hbit := toNat_emod_lt (Nat.zero_lt_of_lt hr) ((r : Int) - i)
    obtain ⟨j, hj, hij⟩ : ∃ j, j < rows.length ∧ (((r : Int) - i) % rows.length).toNat = rows.length - 1 - j :=
      ⟨rows.length - 1 - (((r : Int) - i) % rows.length).toNat, by omega, by omega⟩
    have hread := testBit_deinterleave (v := interleave w rows) (i := i) hr (by rwa [hlen])
    rw [hlen] at hread
    rw [hread, hij, testBit_interleave hi hj, (diagonal_row_iff hr hj).mpr hij]

theorem interleave_deinterleave {sfApp : Nat} {v : List Nat} (hv : ∀ x ∈ v, x < 2 ^ sfApp) :
    interleave v.length (deinterleave sfApp v) = v := by
  refine list_ext_getD (interleave_length _ _) fun i hi => ?_
  have hlen := deinterleave_length sfApp v
  refine eq_of_testBit_msb (w := sfApp) ?_ (hv _ (getD_mem hi)) fun j hj => ?_
  · exact (lt_of_mem_interleave (getD_mem (by rwa [interleave_length]))).trans_eq (by rw [hlen])
  · have hread := testBit_interleave (rows := deinterleave sfApp v) (j := j) hi (by rwa [hlen])
    rw [hlen] at hread
    rw [hread, testBit_deinterleave_diagonal hi hj]

/-! ### The obligations -/

/-- Settles O50: each row by its bits. -/
theorem deinterleaveFollowsTheDiagonal : Obligations.DeinterleaveFollowsTheDiagonal := by
  rintro s v sfApp rfl rfl
  refine ⟨⟨_, rfl, by simp [interBin], fun i j hi hj => testBit_interBin hi hj⟩,
    ⟨_, rfl, deinterleave_length _ _, fun c hc => lt_of_mem_deinterleave hc, fun i j hi hj => testBit_deinterleave_diagonal hi hj⟩,
    ⟨_, rfl, (ofBits_lt _).trans_eq (by rw [List.length_map]), fun i hi => ?_⟩⟩
  have hmsb := testBit_ofBits_msb (l := s.call.nats.map fun b => decide (b ≠ 0)) (i := i) (by simpa using hi)
  rw [List.length_map] at hmsb
  rw [hmsb]
  simp [List.getD_eq_getElem?_getD, hi]

/-- Settles O51: the formula bit by bit, and both compositions by `diagonal_row_iff`. -/
theorem interleaverIsExactInverse : Obligations.InterleaverIsExactInverse := by
  refine ⟨?_, fun w rows _ hrows => deinterleave_interleave hrows, fun sfApp v _ _ hv => interleave_deinterleave hv⟩
  rintro s rows w rfl rfl
  exact ⟨_, rfl, interleave_length _ _, fun i j hi hj => testBit_interleave hi hj⟩

end Sys2Proof.Machine
end

section
/-! PROOFS. The Hamming rows of 43_deinterleave_hamming (R165 to R171). Each code has sixteen words of at most eight bits, so what its
decoder answers for every word with no, one or two wrong bits is a finite table. -/

namespace Sys2Proof.Machine

/-! ### No wrong bit, one wrong bit, two wrong bits -/

theorem hamDec_hamEnc {cr : Nat} (hlow : 1 ≤ cr) (hhigh : cr ≤ 4) (n : Nib) : hamDec (hamEnc cr n) cr = (n, .ok) := by
  have h4 : ∀ n : Nib, hamDec8 (hamEnc 4 n) = (n, .ok) := by decide
  have h3 : ∀ n : Nib, hamDec7 (hamEnc 3 n) = (n, .ok) := by decide
  have h2 : ∀ n : Nib, hamDec6 (hamEnc 2 n) = (n, .ok) := by decide
  have h1 : ∀ n : Nib, hamDec5 (hamEnc 1 n) = (n, .ok) := by decide
  interval_cases cr
  · exact h1 n
  · exact h2 n
  · exact h3 n
  · exact h4 n

/-- HAM_DEC8 corrects one wrong bit (43 R167). -/
theorem hamDec8_oneWrong : ∀ (n : Nib) (i : Nat), i < 8 → hamDec8 (hamEnc 4 n ^^^ (1 <<< i)) = (n, .corrected) := by decide

/-- One wrong bit of the longer codes is corrected (43 R167, R168). -/
theorem hamDec_corrects {cr i : Nat} (hlow : 3 ≤ cr) (hhigh : cr ≤ 4) (hi : i < cr + 4) (n : Nib) :
    hamDec (hamEnc cr n ^^^ (1 <<< i)) cr = (n, .corrected) := by
  have h3 : ∀ (n : Nib) (i : Nat), i < 7 → hamDec7 (hamEnc 3 n ^^^ (1 <<< i)) = (n, .corrected) := by decide
  interval_cases cr
  · exact h3 n i hi
  · exact hamDec8_oneWrong n i hi

/-- One wrong bit of the shorter codes is reported, and the nibble is the one the word holds (43 R169, R170). -/
theorem hamDec_reports {cr i : Nat} (hlow : 1 ≤ cr) (hhigh : cr ≤ 2) (hi : i < cr + 4) (n : Nib) :
    hamDec (hamEnc cr n ^^^ (1 <<< i)) cr = (nibOf (cr + 4) (hamEnc cr n ^^^ (1 <<< i)), .uncorrectable) := by
  have h2 : ∀ (n : Nib) (i : Nat), i < 6 →
      hamDec6 (hamEnc 2 n ^^^ (1 <<< i)) = (nibOf 6 (hamEnc 2 n ^^^ (1 <<< i)), .uncorrectable) := by decide
  have h1 : ∀ (n : Nib) (i : Nat), i < 5 →
      hamDec5 (hamEnc 1 n ^^^ (1 <<< i)) = (nibOf 5 (hamEnc 1 n ^^^ (1 <<< i)), .uncorrectable) := by decide
  interval_cases cr
  · exact h1 n i hi
  · exact h2 n i hi

/-- HAM_DEC8 reports two wrong bits (43 R167). -/
theorem hamDec8_twoWrong : ∀ (n : Nib) (j : Nat), j < 8 → ∀ i, i < j →
    hamDec8 (hamEnc 4 n ^^^ (1 <<< i) ^^^ (1 <<< j)) = (nibOf 8 (hamEnc 4 n ^^^ (1 <<< i) ^^^ (1 <<< j)), .uncorrectable) := by decide

/-! ### The rows -/

theorem exec_hamEnc (s : State) : exec .hamEnc s = .next { s with ret := .nat (hamEnc s.call.n1 (nibArg s.call.n0)) } := rfl

theorem exec_hamDec_of_eq {s : State} {x : Nib} {st : HamStatus} (h : hamDec s.call.n0 s.call.n1 = (x, st)) :
    exec .hamDec s = .next { s with ret := .ham x st } := by
  have hexec : exec .hamDec s = .next { s with ret := .ham (hamDec s.call.n0 s.call.n1).1 (hamDec s.call.n0 s.call.n1).2 } := rfl
  rw [hexec, h]

theorem exec_hamDec8_of_eq {s : State} {x : Nib} {st : HamStatus} (h : hamDec8 s.call.n0 = (x, st)) :
    exec .hamDec8 s = .next { s with ret := .ham x st } := by
  have hexec : exec .hamDec8 s = .next { s with ret := .ham (hamDec8 s.call.n0).1 (hamDec8 s.call.n0).2 } := rfl
  rw [hexec, h]

/-- Settles O52: each table of the spec is HAM_ENC of the nibbles in order (43 R165), so what is said of its entries is the code's. -/
theorem hammingRowsEncodeAndDecode : Obligations.HammingRowsEncodeAndDecode := by
  intro s
  refine ⟨fun cr code hcode n hn hcr => ?_, fun n i j hij hj hc => ?_, fun cr row hrow => ?_⟩
  · have htable : (1 ≤ cr ∧ cr ≤ 4) ∧ ∀ n, n < 16 → code.getD n 0 = hamEnc cr (BitVec.ofNat 4 n) := by
      simp only [List.mem_cons, List.not_mem_nil, or_false, Prod.mk.injEq] at hcode
      rcases hcode with ⟨rfl, rfl⟩ | ⟨rfl, rfl⟩ | ⟨rfl, rfl⟩ | ⟨rfl, rfl⟩ <;> decide
    obtain ⟨⟨hlow, hhigh⟩, hword⟩ := htable
    subst hcr
    rw [hword n hn]
    refine ⟨fun hnib => ?_, fun hc => ?_, fun i hi hc => ⟨fun h => ?_, fun h => ?_⟩⟩
    · rw [exec_hamEnc, hnib, nibArg]
    · exact exec_hamDec_of_eq (hc ▸ hamDec_hamEnc hlow hhigh _)
    · exact exec_hamDec_of_eq (hc ▸ hamDec_corrects h hhigh hi _)
    · exact exec_hamDec_of_eq (hc ▸ hamDec_reports hlow h hi _)
  · exact exec_hamDec8_of_eq (hc ▸ hamDec8_twoWrong n j hj i hij)
  · simp only [List.mem_cons, List.not_mem_nil, or_false, Prod.mk.injEq] at hrow
    rcases hrow with ⟨rfl, rfl⟩ | ⟨rfl, rfl⟩ | ⟨rfl, rfl⟩ | ⟨rfl, rfl⟩ <;>
      exact ⟨fun hcr => by simp only [exec, execHamDec, hcr]; rfl, _, _, rfl⟩

end Sys2Proof.Machine
end

section
/-! PROOFS. NIB2BYTE (43 R172), the header rows (44 R183, R184) and NSYM (30_encoding R89). -/

namespace Sys2Proof.Machine

/-! ### The operands -/

theorem nibArg_toNat (n : Nib) : nibArg n.toNat = n := by simp [nibArg]

theorem nibArgs_map_toNat (x : List Nib) : nibArgs (x.map (·.toNat)) = x := by
  simp only [nibArgs, List.map_map]
  exact List.map_id'' (fun n => nibArg_toNat n) x

/-! ### NIB2BYTE, HDR_CHK, NSYM -/

/-- Byte `t` is the pair of nibbles `2t`, `2t + 1`, where the list holds them. -/
theorem getD_nib2byte {x : List Nib} {n t : Nat} (ht : t < n) (hx : 2 * t + 1 < x.length) :
    (nib2byte x n).getD t 0 = x.getD (2 * t) 0 ++ x.getD (2 * t + 1) 0 := by
  simp [nib2byte, List.getD_eq_getElem?_getD, ht, hx, Nat.lt_of_succ_lt hx]

/-- The bits of a nibble written most significant first. -/
theorem getLsbD_ofBits_nib (b3 b2 b1 b0 : Bool) : ∀ x : Nib, x = BitVec.ofNat 4 (ofBits [b3, b2, b1, b0]) →
    x.getLsbD 3 = b3 ∧ x.getLsbD 2 = b2 ∧ x.getLsbD 1 = b1 ∧ x.getLsbD 0 = b0 := by
  rintro x rfl
  simp only [BitVec.getLsbD_ofNat, testBit_ofBits]
  exact ⟨rfl, rfl, rfl, rfl⟩

/-- `nblk = ceil(need / w)` (30_encoding R89): the least count of blocks of `w` nibbles that holds `need`. -/
theorem nblkOf_bounds {w : Nat} (hw : 1 ≤ w) (need : Nat) : need ≤ nblkOf need w * w ∧ nblkOf need w * w < need + w := by
  have hdiv := Nat.div_add_mod' (need + w - 1) w
  have hmod := Nat.mod_lt (need + w - 1) hw
  unfold nblkOf
  omega

/-- Settles O53: each row by the lemma of its function. -/
theorem headerAndLengthRows : Obligations.HeaderAndLengthRows := by
  refine ⟨fun s x hx => ?_, fun s h0 h1 h2 hn0 hn1 hn2 => ?_, fun s hw => ?_⟩
  · have hexec : exec .nib2byte s = .next { s with ret := .bytes (nib2byte x (x.length / 2)) } := by
      simp only [exec, execNib2byte, returning, hx, nibArgs_map_toNat, List.length_map]
    exact ⟨_, hexec, nib2byte_length _ _, fun t ht => getD_nib2byte ht (by omega)⟩
  · have hparse : exec .hdrParse s = .next { s with ret := .header (h0 ++ h1) (h2.extractLsb' 1 3) (h2.getLsbD 0) } := by
      simp only [exec, execHdrParse, returning, hn0, hn1, hn2, nibArg_toNat, hdrParse]
    have hchk : exec .hdrChk s = .next { s with ret := .nat (hdrChk h0 h1 h2).toNat } := by
      simp only [exec, execHdrChk, returning, hn0, hn1, hn2, nibArg_toNat]
    exact ⟨hparse, _, hchk, getLsbD_ofBits_nib _ _ _ _ _ rfl⟩
  · obtain ⟨hle, hlt⟩ := nblkOf_bounds hw (needOf s.call.n0 s.call.flag)
    exact ⟨_, _, _, rfl, rfl, hle, hlt, rfl⟩

end Sys2Proof.Machine
end

section
/-! PROOFS. HEADER_DECODE of a block with one wrong symbol (43 R162, R167; 44 R186): the diagonal gives each row one bit of the symbol,
and HAM_DEC8 corrects one bit. -/

namespace Sys2Proof.Machine

/-! ### One wrong symbol is one wrong bit in each row -/

/-- Two numbers below `2^w` that may differ in one bit only. -/
theorem eq_or_flip_of_testBit {w a b k : Nat} (ha : a < 2 ^ w) (hb : b < 2 ^ w)
    (h : ∀ m, m < w → m ≠ k → a.testBit m = b.testBit m) : a = b ∨ ∃ i, i < w ∧ a = b ^^^ (1 <<< i) := by
  have hhigh : ∀ m, w ≤ m → a.testBit m = b.testBit m := fun m hm => by
    have hle := Nat.pow_le_pow_right two_pos hm
    rw [Nat.testBit_lt_two_pow (ha.trans_le hle), Nat.testBit_lt_two_pow (hb.trans_le hle)]
  have hother : ∀ m, m ≠ k → a.testBit m = b.testBit m := fun m hm => (Nat.lt_or_ge m w).elim (h m · hm) (hhigh m)
  by_cases hk : a.testBit k = b.testBit k
  · refine .inl (Nat.eq_of_testBit_eq fun m => ?_)
    rcases eq_or_ne m k with rfl | hm
    · exact hk
    · exact hother m hm
  · refine .inr ⟨k, Nat.lt_of_not_le fun hle => hk (hhigh k hle), Nat.eq_of_testBit_eq fun m => ?_⟩
    rw [Nat.testBit_xor, Nat.one_shiftLeft, Nat.testBit_two_pow]
    rcases eq_or_ne m k with rfl | hm
    · simpa using Bool.eq_not_of_ne hk
    · simp [hother m hm, hm.symm]

/-- Where all symbols but one are the interleaved ones, each row has at most one wrong bit (43 R162). -/
theorem deinterleave_oneWrong {w r bad : Nat} {rows v : List Nat} (hrows : ∀ c ∈ rows, c < 2 ^ w) (hlen : v.length = w)
    (hv : ∀ i, i < w → i ≠ bad → v.getD i 0 = (interleave w rows).getD i 0) (hr : r < rows.length) :
    (deinterleave rows.length v).getD r 0 = rows.getD r 0 ∨
    ∃ i, i < w ∧ (deinterleave rows.length v).getD r 0 = rows.getD r 0 ^^^ (1 <<< i) := by
  subst hlen
  refine eq_or_flip_of_testBit (k := v.length - 1 - bad) ?_ (hrows _ (getD_mem hr)) fun m hm hne => ?_
  · exact lt_of_mem_deinterleave (getD_mem (by rwa [deinterleave_length]))
  · obtain ⟨i, hi, rfl⟩ : ∃ i, i < v.length ∧ m = v.length - 1 - i := ⟨v.length - 1 - m, by omega, by omega⟩
    have hlen := interleave_length v.length rows
    have hsent := testBit_deinterleave (v := interleave v.length rows) (i := i) hr (by rwa [hlen])
    rw [hlen, deinterleave_interleave hrows] at hsent
    rw [testBit_deinterleave hr hi, hsent, hv i hi fun h => hne (h ▸ rfl)]

/-! ### HEADER_DECODE of such a block -/

theorem headerNibble_of_oneWrong {n : Nib} {c : Nat} (h : c = hamEnc 4 n ∨ ∃ i, i < 8 ∧ c = hamEnc 4 n ^^^ (1 <<< i)) :
    headerNibble c = some n := by
  rcases h with rfl | ⟨i, hi, rfl⟩
  · have hclean : hamDec8 (hamEnc 4 n) = (n, .ok) := hamDec_hamEnc (by decide) (le_refl 4) n
    rw [headerNibble, hclean]
  · rw [headerNibble, hamDec8_oneWrong n i hi]

theorem blockValues_length (s : State) (w sfApp : Nat) : (blockValues s w sfApp).length = w := by simp [blockValues]

/-- A buffered bin is read as it is. -/
theorem getD_blockValues {s : State} {w sfApp i : Nat} (hi : i < w) (hbuf : i < s.symbuf.length) :
    (blockValues s w sfApp).getD i 0 = symval s.cfg.bins s.cfg.sf sfApp (s.symbuf.getD i 0) := by
  simp [blockValues, List.getD_eq_getElem?_getD, hi, hbuf]

theorem mapO_map_eq_some {α β γ : Type} {f : β → Option γ} {g : α → β} {h : α → γ} {l : List α}
    (hf : ∀ a ∈ l, f (g a) = some (h a)) : mapO f (l.map g) = some (l.map h) := by
  induction l with
  | nil => rfl
  | cons a as ih => simp [mapO, hf a, ih fun b hb => hf b (List.mem_cons_of_mem a hb)]

/-- The four header nibbles, where rows 0 to 3 give them (44 R182). -/
theorem mapO_headerRows {s : State} {h : Nat → Nib} (hsf : 4 ≤ s.cfg.sf - 2)
    (hrow : ∀ r, r < 4 → headerNibble ((deinterleave (s.cfg.sf - 2) (blockValues s 8 (s.cfg.sf - 2))).getD r 0) = some (h r)) :
    mapO headerNibble (headerRows s) = some ((List.range 4).map h) := by
  refine mapO_map_eq_some fun r hr => ?_
  have hlt := List.mem_range.mp hr
  rw [← hrow r hlt, getD_deinterleave _ _ (hlt.trans_le hsf), getD_deinterleave _ _ (hlt.trans_le hsf)]

/-- HEADER_DECODE of four good nibbles with a good checksum and a legal coding rate (44 R186). -/
theorem headerDecodeOp_of_valid {s : State} {h0 h1 h2 : Nib} {len : BitVec 8} {cr : BitVec 3} {crc : Bool}
    (hrows : mapO headerNibble (headerRows s) = some [h0, h1, h2, hdrChk h0 h1 h2]) (hparse : hdrParse h0 h1 h2 = (len, cr, crc))
    (hlow : 1 ≤ cr.toNat) (hhigh : cr.toNat ≤ 4) :
    headerDecodeOp s = setupPayload { s with hdrf := ⟨len, cr, crc, true, true⟩ } := by
  have hlegal : ¬ (cr.toNat < 1 ∨ 4 < cr.toNat) := by omega
  simp only [headerDecodeOp, hrows, hparse, ne_eq, not_true_eq_false, if_false, if_neg hlegal]

/-- HDR_PARSE undoes the split of the fields into nibbles (44 R183). -/
theorem hdrParse_fields (len : BitVec 8) (cr : BitVec 3) (crc : Bool) :
    hdrParse (len.extractLsb' 4 4) (len.extractLsb' 0 4) (cr ++ BitVec.ofBool crc) = (len, cr, crc) := by
  have hlen : len.extractLsb' 4 4 ++ len.extractLsb' 0 4 = len :=
    (BitVec.extractLsb'_append_extractLsb'_eq_extractLsb' rfl).trans BitVec.extractLsb'_eq_self
  have hrest : ∀ (cr : BitVec 3) (crc : Bool), (cr ++ BitVec.ofBool crc).extractLsb' 1 3 = cr ∧
      (cr ++ BitVec.ofBool crc).getLsbD 0 = crc := by decide
  obtain ⟨hcr, hcrc⟩ := hrest cr crc
  exact Prod.ext hlen (Prod.ext hcr hcrc)

theorem needOf_eq_zero_iff (len : BitVec 8) (crc : Bool) : needOf len.toNat crc = 0 ↔ len = 0 ∧ crc = false := by
  constructor
  · intro h
    obtain ⟨hlen, hcrc⟩ := needOf_eq_zero h
    exact ⟨BitVec.eq_of_toNat_eq hlen, hcrc⟩
  · rintro ⟨rfl, rfl⟩
    rfl

/-- Settles O37: each of rows 0 to 3 is its codeword with at most one wrong bit, so it decodes to its nibble. -/
theorem headerSurvivesOneWrongSymbol : Obligations.HeaderSurvivesOneWrongSymbol := by
  rintro s len cr crc h0 h1 h2 rows bad hinv hph hlow hhigh hh0 hh1 hh2 hlen hrows htake hsyms
  have hbuf : s.symbuf.length = 8 := by
    have hwf := hinv.phase
    rw [PhaseWf, hph] at hwf
    obtain ⟨_, _, hbuf, _⟩ := hwf
    exact hbuf
  have hfour : 4 ≤ rows.length := by simpa using congrArg List.length htake
  have hcode : ∀ r, r < 4 → rows.getD r 0 = hamEnc 4 ([h0, h1, h2, hdrChk h0 h1 h2].getD r 0) := fun r hr => by
    have hget : rows.getD r 0 = (rows.take 4).getD r 0 := by simp [List.getD_eq_getElem?_getD, hr]
    rw [hget, htake]
    interval_cases r <;> rfl
  have hrow : ∀ r, r < 4 → headerNibble ((deinterleave (s.cfg.sf - 2) (blockValues s 8 (s.cfg.sf - 2))).getD r 0)
      = some ([h0, h1, h2, hdrChk h0 h1 h2].getD r 0) := fun r hr => by
    refine headerNibble_of_oneWrong ?_
    rw [← hcode r hr, ← hlen]
    refine deinterleave_oneWrong (bad := bad) hrows (blockValues_length s 8 _) (fun i hi hne => ?_) (by omega)
    rw [getD_blockValues hi (hbuf ▸ hi), hlen, hsyms i hi hne]
  have hparse : hdrParse h0 h1 h2 = (len, cr, crc) := by rw [hh0, hh1, hh2, hdrParse_fields]
  have hop := headerDecodeOp_of_valid (mapO_headerRows (hlen ▸ hfour) hrow) hparse hlow hhigh
  refine ⟨_, congrArg Host.Outcome.next hop, rfl, rfl, rfl, rfl, rfl, rfl, rfl, ?_⟩
  simp only [setupPayload_phase, needOf_eq_zero_iff]

end Sys2Proof.Machine
end

section
/-! PROOFS. HEADER_DECODE (44_header_decoder R185, R186): which of its tests stops it, and the state each outcome leaves. -/

namespace Sys2Proof.Machine

/-! ### The rows it reads -/

/-- A full block is read as the buffered bins themselves. -/
theorem blockValues_eq_map {s : State} {w : Nat} (hbuf : s.symbuf.length = w) (sfApp : Nat) :
    blockValues s w sfApp = s.symbuf.map (symval s.cfg.bins s.cfg.sf sfApp) := by
  subst hbuf
  refine list_ext_getD (by simp [blockValues_length]) fun i hi => ?_
  rw [List.length_map] at hi
  rw [getD_blockValues hi hi]
  simp [hi]

theorem headerNibble_of_uncorrectable {c : Nat} (h : (hamDec8 c).2 = .uncorrectable) : headerNibble c = none := by
  rw [headerNibble, show hamDec8 c = ((hamDec8 c).1, .uncorrectable) from Prod.ext rfl h]

theorem headerNibble_of_correctable {c : Nat} (h : (hamDec8 c).2 ≠ .uncorrectable) : headerNibble c = some (hamDec8 c).1 := by
  rw [headerNibble]
  split
  case h_1 hdec => exact absurd (congrArg Prod.snd hdec) h
  case h_2 hdec => rw [hdec]

/-- One bad row among rows 0 to 3 leaves no header nibbles (44 R185). -/
theorem mapO_headerRows_eq_none {s : State} {r : Nat} (hsf : 4 ≤ s.cfg.sf - 2) (hr : r < 4)
    (hrow : headerNibble ((deinterleave (s.cfg.sf - 2) (blockValues s 8 (s.cfg.sf - 2))).getD r 0) = none) :
    mapO headerNibble (headerRows s) = none := by
  refine mapO_eq_none (List.mem_map_of_mem (List.mem_range.mpr hr)) ?_
  rw [← hrow, getD_deinterleave _ _ (hr.trans_le hsf), getD_deinterleave _ _ (hr.trans_le hsf)]

/-! ### The tests in order -/

theorem headerDecodeOp_of_noRows {s : State} (hrows : mapO headerNibble (headerRows s) = none) :
    headerDecodeOp s = headerAborted (raise .hammingUncorrectable { s with hdrf := .reset }) := by
  rw [headerDecodeOp, hrows]

section
variable {s : State} {h0 h1 h2 h3 : Nib} {len : BitVec 8} {cr : BitVec 3} {crc : Bool}

theorem headerDecodeOp_of_mismatch (hrows : mapO headerNibble (headerRows s) = some [h0, h1, h2, h3])
    (hparse : hdrParse h0 h1 h2 = (len, cr, crc)) (hchk : hdrChk h0 h1 h2 ≠ h3) :
    headerDecodeOp s = headerAborted (raise .headerCrcMismatch { s with hdrf := ⟨len, cr, crc, false, false⟩ }) := by
  simp only [headerDecodeOp, hrows, hparse, if_pos hchk]

theorem headerDecodeOp_of_invalidRate (hrows : mapO headerNibble (headerRows s) = some [h0, h1, h2, hdrChk h0 h1 h2])
    (hparse : hdrParse h0 h1 h2 = (len, cr, crc)) (hrate : cr.toNat < 1 ∨ 4 < cr.toNat) :
    headerDecodeOp s = headerAborted (raise .headerFieldInvalid { s with hdrf := ⟨len, cr, crc, true, false⟩ }) := by
  simp only [headerDecodeOp, hrows, hparse, ne_eq, not_true_eq_false, if_false, if_pos hrate]

end

/-! ### The states it leaves -/

/-- A header abort that records an error (48 R227, 60 R262). -/
theorem headerAborted_raise (k : ErrKind) (f : Hdrf) (s : State) :
    headerAborted (raise k { s with hdrf := f }) =
      { s with
        hdrf := f
        err := s.err ||| (1#32 <<< k.code)
        lastErr := BitVec.ofNat 4 k.code
        abortCount := s.abortCount + 1
        sync := { s.sync with locked := false }
        p := s.sympos
        symbuf := []
        phase := nextPhase { s with abortCount := s.abortCount + 1 } } := rfl

/-- The payload set up from the fields of a valid header (48 R226). -/
theorem setupPayload_valid (s : State) (len : BitVec 8) (cr : BitVec 3) (crc : Bool) :
    setupPayload { s with hdrf := ⟨len, cr, crc, true, true⟩ } =
      { s with
        hdrf := ⟨len, cr, crc, true, true⟩
        need := 2 * (len.toNat + if crc then 2 else 0)
        nib := []
        hamUnc := 0
        symbuf := []
        blklen := cr.toNat + 4
        phase := if len = 0 ∧ crc = false then .dewhiten else .payDemod } := by
  simp only [setupPayload, needOf_eq_zero_iff]
  rfl

/-- Settles O36: the four rows give their nibbles or the first test fails; the checksum and the coding rate decide the rest. -/
theorem headerDecodeTestsInOrder : Obligations.HeaderDecodeTestsInOrder := by
  rintro s cw h len cr crc abort hbuf hsf hcw hdec rfl rfl rfl rfl
  have hfour : 4 ≤ s.cfg.sf - 2 := by omega
  rw [← blockValues_eq_map hbuf] at hcw
  subst hcw
  have hexec : exec .headerDecode s = .next (headerDecodeOp s) := rfl
  rw [hexec]
  constructor
  · rintro ⟨r, hr, hbad⟩
    have hrows := mapO_headerRows_eq_none hfour hr (headerNibble_of_uncorrectable (hdec r ▸ hbad))
    rw [headerDecodeOp_of_noRows hrows, headerAborted_raise]
    rfl
  · intro hgood
    have hrows : mapO headerNibble (headerRows s) = some [(h 0).1, (h 1).1, (h 2).1, (h 3).1] :=
      mapO_headerRows (h := fun r => (h r).1) hfour fun r hr => by
        rw [hdec r]
        exact headerNibble_of_correctable (hdec r ▸ hgood r hr)
    refine ⟨fun hchk => ?mismatch, fun hchk => ⟨fun hrate => ?invalidRate, fun hlow hhigh => ?valid⟩⟩
    case mismatch =>
      rw [headerDecodeOp_of_mismatch hrows rfl hchk, headerAborted_raise]
      rfl
    case invalidRate =>
      rw [headerDecodeOp_of_invalidRate (hchk ▸ hrows) rfl hrate, headerAborted_raise]
      rfl
    case valid => rw [headerDecodeOp_of_valid (hchk ▸ hrows) rfl hlow hhigh, setupPayload_valid]

end Sys2Proof.Machine
end

section
/-! PROOFS. PAYLOAD_BLOCK_DECODE (45_payload_decoder R192, R193): the rows it decodes, and the state it leaves. -/

namespace Sys2Proof.Machine

/-- The decoded rows of a block that has room for `room` nibbles (45 R193). -/
def decodedRows (cr room : Nat) (cw : List Nat) : List (Nib × HamStatus) := (cw.take room).map fun c => hamDec c cr

/-- Where no nibble is missing no row is decoded. -/
theorem decodedRows_zero (cr : Nat) (cw : List Nat) : decodedRows cr 0 cw = [] := rfl

theorem decodedRows_nil (cr room : Nat) : decodedRows cr room [] = [] := by simp [decodedRows]

theorem decodedRows_succ_cons (cr room c : Nat) (cs : List Nat) :
    decodedRows cr (room + 1) (c :: cs) = hamDec c cr :: decodedRows cr room cs := rfl

/-- The rows append the nibbles they decode to, and count those of them that are uncorrectable (45 R193). -/
theorem payloadRows_eq_decodedRows {cr need : Nat} (cw : List Nat) {nib : List Nib} (unc : Nat) (h : nib.length ≤ need) :
    payloadRows cr need cw nib unc =
      (nib ++ (decodedRows cr (need - nib.length) cw).map Prod.fst,
        unc + (decodedRows cr (need - nib.length) cw).countP fun d => d.2 = .uncorrectable) := by
  induction cw generalizing nib unc with
  | nil => simp [payloadRows, decodedRows_nil]
  | cons c cs ih =>
    by_cases hfull : nib.length = need
    · simp [payloadRows, hfull, decodedRows_zero]
    · have hlen : (nib ++ [(hamDec c cr).1]).length = nib.length + 1 := List.length_append
      have hroom : need - nib.length = need - (nib ++ [(hamDec c cr).1]).length + 1 := by omega
      rw [payloadRows, if_neg hfull, ih _ (by omega), hroom, decodedRows_succ_cons, List.map_cons, List.append_cons, List.countP_cons]
      by_cases hbad : (hamDec c cr).2 = .uncorrectable
      · simp [hbad, Nat.add_assoc, Nat.add_comm 1]
      · simp [hbad]

/-- PAYLOAD_BLOCK_DECODE of a block that adds the nibbles `new`, `unc` of them from uncorrectable rows: it reports where there is
one (45 R193, 60 R262). -/
theorem payloadBlockOp_of_rows {s : State} {new : List Nib} {unc : Nat}
    (hrows : payloadRows s.hdrf.codingRate.toNat s.need
      (deinterleave s.cfg.sfAppPay (blockValues s (s.hdrf.codingRate.toNat + 4) s.cfg.sfAppPay)) s.nib s.hamUnc
        = (s.nib ++ new, s.hamUnc + unc)) :
    payloadBlockOp s =
      { s with
        nib := s.nib ++ new
        hamUnc := s.hamUnc + unc
        symbuf := []
        err := if 0 < unc then s.err ||| 0x200#32 else s.err
        lastErr := if 0 < unc then 9 else s.lastErr
        phase := if s.nib.length + new.length < s.need then .payDemod else .dewhiten } := by
  simp only [payloadBlockOp, hrows, List.length_append]
  rcases Nat.eq_zero_or_pos unc with rfl | hunc
  · simp only [Nat.add_zero, Nat.lt_irrefl, if_false]
  · simp only [if_pos hunc, if_pos (Nat.lt_add_of_pos_right hunc)]
    rfl

/-- Settles O38: the block is read as the buffered bins, and the fold over its rows is the decoded rows up to NEED nibbles. -/
theorem payloadBlockAppendsNibbles : Obligations.PayloadBlockAppendsNibbles := by
  rintro s cr dec unc rfl hneed hbuf rfl rfl
  have hrows := payloadRows_eq_decodedRows (cr := s.hdrf.codingRate.toNat)
    (deinterleave s.cfg.sfAppPay (s.symbuf.map (symval s.cfg.bins s.cfg.sf s.cfg.sfAppPay))) s.hamUnc hneed
  rw [← blockValues_eq_map hbuf] at hrows ⊢
  have hop := payloadBlockOp_of_rows hrows
  rw [List.length_map] at hop
  exact congrArg Host.Outcome.next hop

end Sys2Proof.Machine
end

section
/-! PROOFS. PN9 and DEWHITEN (46_dewhitener): the register and the bits of PN9_BYTE (R200, R201), the bytes `whiten` masks (R203), and
that the mask undoes itself (R204). -/

namespace Sys2Proof.Machine

/-! ### PN9_STEP and PN9_BYTE -/

/-- The feedback bit goes into bit 8 (46 R200). -/
theorem pn9Step_register (l : BitVec 9) :
    (pn9Step l).2 = (l >>> 1) ||| (if l.getLsbD 0 ^^ l.getLsbD 5 then 0x100#9 else 0) := by
  simp only [pn9Step]
  cases l.getLsbD 0 ^^ l.getLsbD 5 <;> rfl

theorem pn9Bits_register (k : Nat) (b : Byte) (l : BitVec 9) : (pn9Bits k b l).2 = (fun r => (pn9Step r).2)^[k] l := by
  induction k generalizing b l with
  | zero => rfl
  | succ k ih => rw [pn9Bits, ih, Function.iterate_succ_apply]

/-- A bit shifted in from the right stands in bit 0, and the others move up by one. -/
theorem getLsbD_shiftIn (b : Byte) (bit : Bool) {i : Nat} (hi : i < 8) :
    ((b <<< 1) ||| BitVec.ofNat 8 bit.toNat).getLsbD i = if i = 0 then bit else b.getLsbD (i - 1) := by
  have hbit : (BitVec.ofNat 8 bit.toNat).getLsbD i = (decide (i = 0) && bit) := by
    cases bit <;> simp [BitVec.getLsbD_one]
  rw [BitVec.getLsbD_or, hbit, BitVec.getLsbD_shiftLeft]
  by_cases hzero : i = 0
  · simp [hzero]
  · simp [hzero, hi]

/-- The last of `k` output bits is bit 0, the one before it bit 1, and so on; above them stand the bits of the start value
(46 R201). -/
theorem getLsbD_pn9Bits (k : Nat) (b : Byte) (l : BitVec 9) {i : Nat} (hi : i < 8) :
    (pn9Bits k b l).1.getLsbD i =
      if i < k then ((fun r => (pn9Step r).2)^[k - 1 - i] l).getLsbD 0 else b.getLsbD (i - k) := by
  induction k generalizing b l with
  | zero => rfl
  | succ k ih =>
    rw [pn9Bits, ih]
    rcases Nat.lt_trichotomy i k with hlt | rfl | hgt
    · have hsteps : k + 1 - 1 - i = k - 1 - i + 1 := by omega
      rw [if_pos hlt, if_pos (Nat.lt_succ_of_lt hlt), hsteps, Function.iterate_succ_apply]
    · rw [if_neg (Nat.lt_irrefl i), Nat.sub_self, getLsbD_shiftIn _ _ (by omega), if_pos rfl, if_pos (Nat.lt_succ_self i),
        Nat.add_sub_cancel, Nat.sub_self]
      rfl
    · rw [if_neg (by omega), if_neg (by omega), getLsbD_shiftIn _ _ (by omega), if_neg (by omega), Nat.sub_sub]

/-- The first output bit is bit 7 (46 R201). -/
theorem getLsbD_pn9Byte (l : BitVec 9) {k : Nat} (hk : k < 8) :
    (pn9Byte l).1.getLsbD (7 - k) = ((fun r => (pn9Step r).2)^[k] l).getLsbD 0 := by
  have hindex : 8 - 1 - (7 - k) = k := by omega
  rw [pn9Byte, getLsbD_pn9Bits _ _ _ (by omega), if_pos (by omega), hindex]

/-- Settles O41: the step and the eight steps for every register; the bytes from the seed are the spec's example. -/
theorem pn9StepsAndBytes : Obligations.Pn9StepsAndBytes := by
  refine ⟨fun s => ⟨?step, (pn9Byte s.lfsr).1, ?byte, fun k hk => getLsbD_pn9Byte s.lfsr hk⟩, by decide, by decide⟩
  case step =>
    rw [← pn9Step_register]
    rfl
  case byte =>
    rw [← pn9Bits_register 8 0]
    rfl

/-! ### The mask -/

/-- The bytes below the count are XORed with the PN9 bytes of their places, the others are kept (46 R203). -/
theorem getD_whiten (k : Nat) (l : BitVec 9) {bs : List Byte} {t : Nat} (ht : t < bs.length) :
    (whiten k l bs).1.getD t 0 =
      bs.getD t 0 ^^^ (if t < k then (pn9Byte ((fun r => (pn9Byte r).2)^[t] l)).1 else 0) := by
  induction k generalizing l bs t with
  | zero => simp [whiten]
  | succ k ih =>
    cases bs with
    | nil => cases ht
    | cons b bs =>
      cases t with
      | zero => simp [whiten]
      | succ t =>
        have htail := ih (pn9Byte l).2 (Nat.lt_of_succ_lt_succ ht)
        simpa only [whiten, List.getD_cons_succ, Nat.add_lt_add_iff_right, Function.iterate_succ_apply] using htail

/-- Nothing is appended (46 R203; log 14). -/
theorem whiten_nil (k : Nat) (l : BitVec 9) : (whiten k l []).1 = [] := List.eq_nil_of_length_eq_zero (whiten_length k l [])

/-- The mask depends on the register and the count only, so that a second one takes the first away (46 R204). -/
theorem whiten_whiten (k : Nat) (l : BitVec 9) (bs : List Byte) : (whiten k l (whiten k l bs).1).1 = bs := by
  induction k generalizing l bs with
  | zero => rfl
  | succ k ih =>
    cases bs with
    | nil => rw [whiten_nil, whiten_nil]
    | cons b bs => simp only [whiten, ih, BitVec.xor_assoc, BitVec.xor_self, BitVec.xor_zero]

/-- Settles O40: from the seed as from any register. -/
theorem whiteningIsSelfInverse : Obligations.WhiteningIsSelfInverse := fun k bs => whiten_whiten k 0x1FF bs

/-- Settles O39: the bytes are the nibble pairs, masked below `payload_length`. -/
theorem dewhitenXorsPayloadBytes : Obligations.DewhitenXorsPayloadBytes := by
  intro s hnib _
  have hpairs : (nib2byte s.nib (s.need / 2)).length = s.need / 2 := nib2byte_length _ _
  refine ⟨_, _, rfl, whiten_register _ _ _, (whiten_length _ _ _).trans hpairs, fun t ht => ?_⟩
  rw [getD_whiten _ _ (hpairs.symm ▸ ht), getD_nib2byte ht (by omega)]

end Sys2Proof.Machine
end

section
/-! PROOFS. The CRC (47_crc_verifier R205 to R208, R212): LORA_CRC by the last two bytes, CRC_CHECK, and that a change of one byte
shows, since no shift of CRC16 loses a bit. -/

namespace Sys2Proof.Machine

/-! ### CRC16 and LORA_CRC -/

/-- Two bytes side by side: no bit of the one meets a bit of the other. -/
theorem append_eq_or_halves (a b : Byte) : a ++ b = b.setWidth 16 ||| (a.setWidth 16 <<< 8) := by
  simpa [BitVec.or_comm] using BitVec.setWidth_append_eq_shiftLeft_setWidth_or (b := a) (b' := b) (w'' := 16)

theorem append_eq_xor_halves (a b : Byte) : a ++ b = b.setWidth 16 ^^^ (a.setWidth 16 <<< 8) := by
  rw [append_eq_or_halves]
  apply BitVec.eq_of_getLsbD_eq
  intro i hi
  simp only [BitVec.getLsbD_or, BitVec.getLsbD_xor, BitVec.getLsbD_setWidth, BitVec.getLsbD_shiftLeft]
  by_cases hlow : i < 8
  · simp [hlow]
  · simp [BitVec.getLsbD_of_ge b i (Nat.not_lt.mp hlow)]

theorem crc16_concat (d : List Byte) (b : Byte) : crc16 (d ++ [b]) = crcByte (crc16 d) b := by
  rw [crc16, List.foldl_append]
  rfl

/-- A byte enters in the high half (R205). -/
theorem crcByte_eq_iterate (c : BitVec 16) (b : Byte) : crcByte c b = crcShift^[8] (c ^^^ (b ++ 0#8)) := by
  have hhigh : b.setWidth 16 <<< 8 = b ++ 0#8 := by simp [append_eq_or_halves]
  rw [← hhigh]
  rfl

/-- LORA_CRC of two bytes or more (R206). -/
theorem loraCrc_append_pair (d : List Byte) (a b : Byte) : loraCrc (d ++ [a, b]) = crc16 d ^^^ (a ++ b) := by
  rw [append_eq_xor_halves, ← BitVec.xor_assoc]
  simp [loraCrc, List.getD_eq_getElem?_getD]

theorem loraCrc_singleton (b : Byte) : loraCrc [b] = 0#8 ++ b := by
  rw [append_eq_or_halves]
  simp [loraCrc, crc16]

/-- CRC_RX is the two bytes after the payload, low byte first (R207). -/
theorem crcRxOf_eq_append {l : List Byte} {n : Nat} (h : n + 2 ≤ l.length) : crcRxOf l n = l.getD (n + 1) 0 ++ l.getD n 0 := by
  have hbyte : ∀ i, i < l.length → byteAt l i = l.getD i 0 := fun i hi => by
    simp [byteAt, List.getD_eq_getElem?_getD, hi]
  rw [append_eq_or_halves, crcRxOf, hbyte n (by omega), hbyte (n + 1) (by omega)]

/-- Settles O44: the rows and the equations of R205 to R207; the worked examples are evaluated. -/
theorem crcRows : Obligations.CrcRows := by
  refine ⟨fun s => ⟨rfl, rfl, fun hlen => ?crcRx⟩, rfl, fun d b => ?shifts, loraCrc_append_pair, rfl, loraCrc_singleton,
    ?check, ?checkLora, by decide⟩
  case crcRx =>
    rw [← crcRxOf_eq_append hlen]
    rfl
  case shifts =>
    rw [crc16_concat, crcByte_eq_iterate]
    rfl
  case check => simp [crc16, crcByte, crcShift]
  case checkLora => simp [loraCrc, crc16, crcByte, crcShift]

/-! ### CRC_CHECK -/

/-- Settles O42: both branches of R208. -/
theorem crcCheckComparesAndGoesOn : Obligations.CrcCheckComparesAndGoesOn := by
  rintro s len rfl
  refine ⟨fun hcrc => congrArg Host.Outcome.next ?absent, fun hcrc hbytes rx own hrx hown => congrArg Host.Outcome.next ?present⟩
  case absent =>
    rw [crcCheckOp, if_neg (ne_true_of_eq_false hcrc)]
  case present =>
    rw [← crcRxOf_eq_append hbytes.ge] at hrx
    rw [← firstBytes_eq_take (by omega)] at hown
    rw [crcCheckOp, if_pos hcrc, ← hrx, ← hown]
    by_cases hsame : rx = own
    · simp only [hsame, ↓reduceIte]
    · simp only [hsame, ↓reduceIte]
      rfl

/-! ### A change of one byte -/

/-- A shift can be undone: bit 0 of its result says whether the polynomial was XORed in. -/
theorem crcShift_injective : Function.Injective crcShift := by
  have hbit0 : ∀ c, (crcShift c).getLsbD 0 = c.getLsbD 15 := fun c => by
    unfold crcShift
    cases h : c.getLsbD 15 <;> simp
  intro a b h
  have htop : a.getLsbD 15 = b.getLsbD 15 := by rw [← hbit0, ← hbit0, h]
  have hshift : a <<< 1 = b <<< 1 := by
    unfold crcShift at h
    rw [htop] at h
    split at h
    · exact (BitVec.xor_left_inj _).mp h
    · exact h
  apply BitVec.eq_of_getLsbD_eq
  intro i hi
  obtain hlt | rfl : i < 15 ∨ i = 15 := by omega
  · have hbit := congrArg (fun c : BitVec 16 => c.getLsbD (i + 1)) hshift
    simpa only [BitVec.getLsbD_shiftLeft, show i + 1 < 16 by omega, decide_true, Bool.true_and, Nat.add_sub_cancel,
      show ¬ i + 1 < 1 by omega, decide_false, Bool.not_false] using hbit
  · exact htop

theorem crcByte_injective_left (b : Byte) : Function.Injective fun c => crcByte c b := by
  intro c c' h
  simp only [crcByte_eq_iterate] at h
  exact (BitVec.xor_left_inj _).mp (crcShift_injective.iterate 8 h)

theorem crcByte_injective_right (c : BitVec 16) : Function.Injective (crcByte c) := by
  intro b b' h
  simp only [crcByte_eq_iterate] at h
  have hhigh : b ++ 0#8 = b' ++ 0#8 := (BitVec.xor_right_inj c).mp (crcShift_injective.iterate 8 h)
  exact (BitVec.append_left_inj _).mp hhigh

theorem foldl_crcByte_injective (d : List Byte) : Function.Injective fun c => d.foldl crcByte c := by
  induction d with
  | nil => exact fun _ _ h => h
  | cons b d ih => exact ih.comp (crcByte_injective_left b)

/-- CRC16 tells two lists apart that differ in one byte. -/
theorem crc16_set_ne {d : List Byte} {i : Nat} (hi : i < d.length) {y : Byte} (hy : y ≠ d[i]) : crc16 (d.set i y) ≠ crc16 d := by
  intro h
  rw [List.set_eq_take_append_cons_drop, if_pos hi] at h
  conv_rhs at h => rw [← List.take_append_drop i d, List.drop_eq_getElem_cons hi]
  simp only [crc16, List.foldl_append, List.foldl_cons] at h
  exact hy (crcByte_injective_right _ (foldl_crcByte_injective _ h))

/-- A list is empty, has one entry, or ends in two. -/
theorem eq_nil_or_singleton_or_append_pair {α : Type} (d : List α) : d = [] ∨ (∃ b, d = [b]) ∨ ∃ p a b, d = p ++ [a, b] := by
  rcases d.eq_nil_or_concat with rfl | ⟨q, b, rfl⟩
  · exact .inl rfl
  · rcases q.eq_nil_or_concat with rfl | ⟨p, a, rfl⟩
    · exact .inr (.inl ⟨b, rfl⟩)
    · exact .inr (.inr ⟨p, a, b, by simp⟩)

/-- LORA_CRC tells them apart too: the byte goes through CRC16, or is one of the two that are XORed in. -/
theorem loraCrc_set_ne {d : List Byte} {i : Nat} (hi : i < d.length) {y : Byte} (hy : y ≠ d[i]) :
    loraCrc (d.set i y) ≠ loraCrc d := by
  rcases eq_nil_or_singleton_or_append_pair d with rfl | ⟨b, rfl⟩ | ⟨p, a, b, rfl⟩
  · exact absurd hi (Nat.not_lt_zero i)
  · obtain rfl : i = 0 := by simpa using hi
    intro h
    have hlow : 0#8 ++ y = 0#8 ++ b := by simpa [loraCrc_singleton] using h
    exact hy ((BitVec.append_right_inj _).mp hlow)
  · obtain hfront | rfl | rfl : i < p.length ∨ i = p.length ∨ i = p.length + 1 := by
      simp at hi
      omega
    · rw [List.set_append_left _ _ hfront, loraCrc_append_pair, loraCrc_append_pair]
      rw [List.getElem_append_left hfront] at hy
      exact fun h => crc16_set_ne hfront hy ((BitVec.xor_left_inj _).mp h)
    · intro h
      have hhigh : y ++ b = a ++ b := by simpa [loraCrc_append_pair, BitVec.xor_right_inj] using h
      exact hy (by simpa using (BitVec.append_left_inj _).mp hhigh)
    · intro h
      have hlow : a ++ y = a ++ b := by simpa [loraCrc_append_pair, BitVec.xor_right_inj] using h
      exact hy (by simpa using (BitVec.append_right_inj _).mp hlow)

/-- CRC_CHECK of a payload followed by two CRC bytes, low byte first. -/
theorem crcCheckOp_of_payload {s : State} {d : List Byte} {lo hi : Byte} (hcrc : s.hdrf.hasCrc = true)
    (hlen : s.hdrf.payloadLength.toNat = d.length) (hbytes : s.bytes = d ++ [lo, hi]) :
    (crcCheckOp s).crcChecked = true ∧ (crcCheckOp s).crcOk = decide (hi ++ lo = loraCrc d) ∧
    (crcCheckOp s).err = if hi ++ lo = loraCrc d then s.err else s.err ||| 0x20#32 := by
  have hrx : hi ++ lo = s.bytes.getD (s.hdrf.payloadLength.toNat + 1) 0 ++ s.bytes.getD s.hdrf.payloadLength.toNat 0 := by
    simp [hbytes, hlen, List.getD_eq_getElem?_getD]
  have hown : loraCrc d = loraCrc (s.bytes.take s.hdrf.payloadLength.toNat) := by rw [hbytes, hlen, List.take_left]
  have hexec := (crcCheckComparesAndGoesOn s _ rfl).2 hcrc (by simp [hbytes, hlen]) _ _ hrx hown
  rw [show crcCheckOp s = _ from Host.Outcome.next.inj hexec]
  exact ⟨rfl, rfl, rfl⟩

/-- Settles O43: the payload's own CRC agrees, and a changed payload has another one. -/
theorem crcAcceptsOwnAndDetectsOneByte : Obligations.CrcAcceptsOwnAndDetectsOneByte := by
  intro s d lo hi hcrc hlen hown
  refine ⟨fun hbytes => ?accepts, fun i x hi' hx hbytes => ?detects⟩
  case accepts =>
    obtain ⟨hchecked, hok, herr⟩ := crcCheckOp_of_payload hcrc hlen hbytes
    exact ⟨_, rfl, by simpa [hown] using hok, hchecked, by simpa [hown] using herr⟩
  case detects =>
    have hchanged : d.getD i 0 ^^^ x ≠ d[i] := by
      rw [List.getD_eq_getElem _ _ hi']
      intro h
      exact hx ((BitVec.xor_right_inj d[i]).mp (h.trans BitVec.xor_zero.symm))
    have hne : ¬ hi ++ lo = loraCrc (d.set i (d.getD i 0 ^^^ x)) := fun h => loraCrc_set_ne hi' hchanged (h.symm.trans hown.symm)
    obtain ⟨hchecked, hok, herr⟩ := crcCheckOp_of_payload hcrc (hlen.trans List.length_set.symm) hbytes
    exact ⟨_, rfl, by rw [hok, decide_eq_false hne], hchecked, by rw [herr, if_neg hne]⟩

end Sys2Proof.Machine
end

section
/-! PROOFS. Totality (60_exceptions R263), the error record (R262), reset (70_reset R280), and the commands and transactions of
48_host_commands_sequencer R216 to R222. -/

namespace Sys2Proof.Machine

/-! ### Totality -/

/-- Settles O5: an instruction has the effect of a host transaction or of the sequencer, and neither writes the host's list or the
parameters of 00_scope R11. -/
theorem everyInstructionCompletes : Obligations.EveryInstructionCompletes := by
  intro i s
  obtain ⟨t, hexec, e⟩ := exec_effect i s
  refine ⟨t, hexec, ?_⟩
  rcases e.host_or_frame with ehost | hframe
  · exact ehost.inbox_inst
  · obtain ⟨_, _, _, _, hinbox, hinst⟩ := hostPart_eq_iff.mp hframe.host
    exact ⟨hinbox, hinst⟩

/-! ### Reset -/

/-- The state the machine starts in is one that RESET leaves alone. -/
theorem resetOp_reset : resetOp State.reset = State.reset := rfl

/-- Settles O8. -/
theorem resetRestoresEverything : Obligations.ResetRestoresEverything :=
  ⟨fun _ s => ⟨_, rfl, resetOp_resetValues s, rfl, rfl, rfl, rfl⟩, resetOp_reset ▸ resetOp_resetValues State.reset⟩

/-- In IDLE with everything cleared the invariant asks only for a FIFO depth (00_scope R11). -/
theorem reset_coreInv : CoreInv State.reset where
  memory := reset_memory_wf
  bins hinj := absurd hinj Bool.false_ne_true
  err := BitVec.zero_and
  lastErr := Nat.zero_le _
  cfg hrun := absurd hrun Bool.false_ne_true
  locked := rfl
  cursor := Nat.le_refl _
  grid hl := absurd hl Bool.false_ne_true
  symbuf := ⟨Nat.le_refl _, Nat.zero_le _⟩
  symbolBins _ hk := absurd hk List.not_mem_nil
  nib := ⟨Nat.le_refl _, Nat.zero_le _⟩
  hamUnc := Nat.le_refl _
  valid hv := absurd hv Bool.false_ne_true
  fifo := ⟨Nat.zero_le _, Nat.succ_pos _⟩
  frames _ hf := absurd hf List.not_mem_nil
  phase := trivial

/-- Settles O6: nothing is pending at reset. -/
theorem invAtReset : Obligations.InvAtReset := ⟨fun _ hpkt => absurd hpkt List.not_mem_nil, reset_coreInv⟩

/-! ### The error record -/

/-- Settles O9: the codes are those of R250. -/
theorem raiseRecordsOnly : Obligations.RaiseRecordsOnly := by
  intro s k c hcode hk
  obtain rfl : c = k.code := by cases k <;> simpa [ErrKind.code] using hcode
  rw [← hk]
  rfl

/-! ### Commands -/

/-- Settles O10: each reserved code is a row of its own with the same meaning. -/
theorem nopAndReservedCommands : Obligations.NopAndReservedCommands := by
  refine fun ign s => ⟨rfl, fun i hi => ?_⟩
  simp only [List.mem_cons, List.not_mem_nil, or_false] at hi
  rcases hi with rfl | rfl | rfl | rfl | rfl | rfl | rfl | rfl | rfl | rfl | rfl <;> rfl

theorem startOp_of_running {s : State} (hrun : running s = true) : startOp s = commandInvalid s := if_pos hrun

theorem startOp_of_invalid {s : State} (hidle : running s = false) (hbad : configOk s.csr = false) :
    startOp s = raise .configInvalid s :=
  (if_neg (ne_true_of_eq_false hidle)).trans (if_neg (ne_true_of_eq_false hbad))

theorem startOp_of_valid {s : State} (hidle : running s = false) (hok : configOk s.csr = true) : startOp s = startRun s :=
  (if_neg (ne_true_of_eq_false hidle)).trans (if_pos hok)

/-- Settles O11: `running` is tested before `config_valid` (60_exceptions R265). -/
theorem startFreezesAndClears : Obligations.StartFreezesAndClears :=
  fun _ _ => ⟨fun hrun => congrArg Host.Outcome.next (startOp_of_running hrun),
    fun hidle hbad => congrArg Host.Outcome.next (startOp_of_invalid hidle hbad),
    fun hidle hok => congrArg Host.Outcome.next (startOp_of_valid hidle hok)⟩

/-- Settles O12. -/
theorem eosDeclaresEndOfStream : Obligations.EosDeclaresEndOfStream :=
  fun _ _ => ⟨fun hrun => congrArg Host.Outcome.next (if_pos hrun),
    fun hidle => congrArg Host.Outcome.next (if_neg (ne_true_of_eq_false hidle))⟩

/-- Settles O13: the command and the transaction are one operation. -/
theorem popDeliversOldestFrame : Obligations.PopDeliversOldestFrame := by
  intro ign s i hi
  have hexec : exec i s = .next (popOp s) := by obtain rfl | rfl := hi <;> rfl
  rw [hexec]
  refine ⟨fun hempty => ?_, fun f rest hhead => ?_⟩
  · rw [popOp, hempty]
    rfl
  · rw [popOp, hhead]

/-! ### Beats -/

/-- The store is full when it holds `SAMPLE_STORE_DEPTH` entries (20_memory R65). -/
theorem storeFull_iff (s : State) :
    storeFull s = true ↔ ∃ d, s.inst.storeDepth = some d ∧ d ≤ s.avail - min (retire s) s.avail := by
  unfold storeFull
  cases s.inst.storeDepth <;> simp

theorem inBeat_of_refused (b : Beat) {s : State} (h : running s = false ∨ s.eos = true) : inBeat b s = commandInvalid s :=
  if_pos (by simpa using h)

theorem inBeat_of_full (b : Beat) {s : State} (hrun : running s = true) (heos : s.eos = false) (hfull : storeFull s = true) :
    inBeat b s = s := by
  rw [inBeat, if_neg (by simp [hrun, heos]), if_pos hfull]

theorem inBeat_of_room (b : Beat) {s : State} (hrun : running s = true) (heos : s.eos = false) (hroom : storeFull s = false) :
    inBeat b s = if (beatEntry s b).2 then raise .nonFiniteSample (appendSample (beatEntry s b).1 s)
      else appendSample (beatEntry s b).1 s := by
  rw [inBeat, if_neg (by simp [hrun, heos]), if_neg (ne_true_of_eq_false hroom)]

/-- An injected bin is the low half word modulo `N` (20_memory R79). -/
theorem beatEntry_of_inject (b : Beat) {s : State} (hinj : s.cfg.inject = true) :
    beatEntry s b = (⟨((b.toNat % 65536 % s.cfg.bins : Nat) : Rat), 0⟩, false) := by
  rw [beatEntry, if_pos hinj, BitVec.extractLsb'_toNat, Nat.shiftRight_zero]

/-- A sample is the two words of the beat (20_memory R67). -/
theorem beatEntry_of_samples (b : Beat) {s : State} (hinj : s.cfg.inject = false) {re im : Rat} {nf0 nf1 : Bool}
    (hre : f32 (b.extractLsb' 0 32) = (re, nf0)) (him : f32 (b.extractLsb' 32 32) = (im, nf1)) :
    beatEntry s b = (⟨re, im⟩, nf0 || nf1) := by
  rw [beatEntry, if_neg (ne_true_of_eq_false hinj), hre, him]

/-- Settles O14: both rows are the one operation on a beat. -/
theorem beatIsRefusedHeldOrStored : Obligations.BeatIsRefusedHeldOrStored := by
  intro b s i hi
  have hexec : exec i s = .next (inBeat b s) := by obtain rfl | rfl := hi <;> rfl
  rw [hexec]
  refine ⟨fun hno => congrArg Host.Outcome.next (inBeat_of_refused b hno), fun hrun heos => ⟨fun hfull => ?held,
    fun hroom => ⟨fun hinj => congrArg Host.Outcome.next ?bin, fun hinj re im nf0 nf1 hre him => congrArg Host.Outcome.next ?sample⟩⟩⟩
  case held => rw [inBeat_of_full b hrun heos ((storeFull_iff s).mpr hfull)]
  all_goals
    have hroom' : storeFull s = false := Bool.eq_false_iff.mpr fun hfull => by
      obtain ⟨d, hd, hle⟩ := (storeFull_iff s).mp hfull
      exact absurd hle (Nat.not_le.mpr (hroom d hd))
    rw [inBeat_of_room b hrun heos hroom']
  case bin =>
    rw [beatEntry_of_inject b hinj]
    rfl
  case sample =>
    rw [beatEntry_of_samples b hinj hre him]
    cases nf0 || nf1 <;> rfl

end Sys2Proof.Machine
end

section
/-! PROOFS. Configurations (00_scope R10, 10_state R26 to R38 and R48, 48_host_commands_sequencer R220): the words of `config_valid`,
the copied bits and the derived parameters. -/

namespace Sys2Proof.Machine

/-- `config_valid`, test by test (48 R220). -/
theorem configOk_iff (c : Csr) :
    configOk c = true ↔ (7 ≤ c.sf.toNat ∧ c.sf.toNat ≤ 12) ∧ c.bw ≠ 0 ∧ (c.fs ≠ 0 ∧ c.bw.toNat ∣ c.fs.toNat) ∧
      (1 ≤ c.cr.toNat ∧ c.cr.toNat ≤ 4) ∧ c.ldroMode ≠ 3 ∧ 4 ≤ c.nPreamble.toNat ∧ c.nPreamble.toNat ≤ c.searchWin.toNat ∧
      ¬ (c.mode.getLsbD 3 = true ∧ c.mode.getLsbD 1 = true ∧ c.payloadLen = 0 ∧ c.mode.getLsbD 0 = false) := by
  simp only [configOk, Bool.and_eq_true, decide_eq_true_eq, Bool.not_eq_true', ← Bool.not_eq_true, Nat.dvd_iff_mod_eq_zero,
    and_assoc]

/-- The two bytes of SYNC_WORD (10_state R30). -/
theorem freeze_syncBytes (c : Csr) :
    (freeze c).v0 = c.syncWord.toNat % 256 ∧ (freeze c).v1 = c.syncWord.toNat / 256 % 256 := by
  have hbyte : ∀ k, (c.syncWord.extractLsb' k 8).toNat = c.syncWord.toNat / 2 ^ k % 256 := fun k => by
    rw [BitVec.extractLsb'_toNat, Nat.shiftRight_eq_div_pow]
  exact ⟨(hbyte 0).trans (by rw [Nat.pow_zero, Nat.div_one]), hbyte 8⟩

/-- The sync symbols of a frozen configuration (30_encoding R92). -/
theorem freeze_syncSymbols (c : Csr) :
    (c.syncWord.getLsbD 16 = true → (freeze c).s0 = c.syncWord.toNat % 256 % (freeze c).bins ∧
      (freeze c).s1 = c.syncWord.toNat / 256 % 256 % (freeze c).bins) ∧
    (c.syncWord.getLsbD 16 = false → (freeze c).s0 = c.syncWord.toNat / 16 % 16 * 8 % (freeze c).bins ∧
      (freeze c).s1 = c.syncWord.toNat % 16 * 8 % (freeze c).bins) := by
  obtain ⟨hv0, hv1⟩ := freeze_syncBytes c
  have hhigh : c.syncWord.toNat % 256 / 16 = c.syncWord.toNat / 16 % 16 := by omega
  have hlow : c.syncWord.toNat % 256 % 16 = c.syncWord.toNat % 16 := by omega
  have hs0 : (freeze c).s0 = (syncSymbolsOf (freeze c).bins (freeze c).v0 (freeze c).v1 (c.syncWord.getLsbD 16)).1 := rfl
  have hs1 : (freeze c).s1 = (syncSymbolsOf (freeze c).bins (freeze c).v0 (freeze c).v1 (c.syncWord.getLsbD 16)).2 := rfl
  rw [hs0, hs1, hv0, hv1]
  constructor <;> intro htwo <;> rw [htwo]
  · exact ⟨rfl, rfl⟩
  · rw [← hhigh, ← hlow]
    exact ⟨rfl, rfl⟩

/-- LDRO is on by command, or by the auto condition (00_scope R10). -/
theorem freeze_ldro (c : Csr) :
    (freeze c).ldro = true ↔ c.ldroMode = 1 ∨ (c.ldroMode = 2 ∧ (freeze c).bins * 1000 > 16 * c.bw.toNat) := by
  have hmode : ∀ m : BitVec 2, c.ldroMode.toNat = m.toNat ↔ c.ldroMode = m := fun m => BitVec.toNat_inj
  simp [freeze, ldroOf, ldroAutoOn, ← hmode]

theorem freeze_sfAppPay (c : Csr) :
    (freeze c).sfAppPay = if (freeze c).ldro then (freeze c).sf - 2 else (freeze c).sf := by
  change c.sf.toNat - 2 * (freeze c).ldro.toNat = if (freeze c).ldro then c.sf.toNat - 2 else c.sf.toNat
  cases (freeze c).ldro <;> rfl

/-- `os * bw = fs` for a bandwidth that divides the sample rate (00_scope R10). -/
theorem freeze_os_mul {c : Csr} (h : configOk c = true) : (freeze c).os * c.bw.toNat = c.fs.toNat := by
  obtain ⟨_, _, ⟨_, hdvd⟩, _⟩ := (configOk_iff c).mp h
  exact Nat.div_mul_cancel hdvd

/-- Settles O54. -/
theorem configurationRowsAndDerivedParameters : Obligations.ConfigurationRowsAndDerivedParameters := by
  refine ⟨fun s => ⟨rfl, rfl⟩, fun c => ⟨configOk_iff c, ?copied, ?derived⟩⟩
  case copied =>
    rintro g rfl
    obtain ⟨hv0, hv1⟩ := freeze_syncBytes c
    exact ⟨rfl, rfl, rfl, rfl, hv0, hv1, rfl, rfl, rfl, rfl, rfl, rfl, rfl, rfl, rfl, rfl, rfl, rfl⟩
  case derived =>
    rintro hok g rfl
    obtain ⟨htwo, hone⟩ := freeze_syncSymbols c
    exact ⟨rfl, (freeze_valid hok).os_pos, freeze_os_mul hok, rfl, freeze_ldro c, rfl, freeze_sfAppPay c, rfl, htwo, hone⟩

end Sys2Proof.Machine
end

section
/-! PROOFS. The sequencer (48_host_commands_sequencer R223 to R240): which operation a CORE step is, its shared actions, and how an
attempt ends. -/

namespace Sys2Proof.Machine

/-! ### The operation of PHASE -/

theorem exec_coreStep (s : State) : exec .coreStep s = .next (coreStepOp s) := rfl

/-- Settles O22: `coreStepOp` is a match on PHASE, of which SEARCH alone looks at the mode. -/
theorem coreStepRunsOperationOfPhase : Obligations.CoreStepRunsOperationOfPhase := by
  refine fun s => ⟨rfl, rfl, fun hrest => ?rest, fun hph hinj => congrArg Host.Outcome.next (coreStepOp_injectSearch hph hinj),
    fun p i hrow hph => ?row, fun hph hinj => congrArg Host.Outcome.next (coreStepOp_preambleSearch hph hinj)⟩
  case rest =>
    rw [exec_coreStep, coreStepOp]
    rcases hrest with hph | hph <;> rw [hph]
  case row =>
    rw [exec_coreStep, coreStepOp, hph]
    simp only [List.mem_cons, Prod.mk.injEq, List.not_mem_nil, or_false] at hrow
    rcases hrow with ⟨rfl, rfl⟩ | ⟨rfl, rfl⟩ | ⟨rfl, rfl⟩ | ⟨rfl, rfl⟩ | ⟨rfl, rfl⟩ | ⟨rfl, rfl⟩ | ⟨rfl, rfl⟩ | ⟨rfl, rfl⟩ <;> rfl

/-- A starved operation is `starve` of its phase (20_memory R64). -/
theorem coreStepOp_of_starved {s : State} (h : starved s = true) : coreStepOp s = starve s.phase s := by
  cases hph : s.phase with
  | search =>
    cases hinj : s.cfg.inject with
    | true =>
      rw [coreStepOp_injectSearch hph hinj]
      exact if_pos ((starved_injectSearch hph hinj).mp h)
    | false =>
      rw [coreStepOp_preambleSearch hph hinj]
      exact preambleSearchOp_of_starved (by simpa [starved, hph, hinj] using h)
  | sync =>
    have hnone : syncResult s = none := by simpa [starved, hph] using h
    rw [coreStepOp, hph]
    simp only [syncMatchOp, hnone]
  | hdrDemod =>
    rw [coreStepOp, hph]
    exact demodSymbolOp_of_starved ((starved_demod (.inl hph)).mp h) _ _
  | payDemod =>
    rw [coreStepOp, hph]
    exact demodSymbolOp_of_starved ((starved_demod (.inr hph)).mp h) _ _
  | idle | hdrDecode | payDecode | dewhiten | crc | emit | done => simp [starved, hph] at h

/-- Settles O23. -/
theorem starvedHoldsOrEnds : Obligations.StarvedHoldsOrEnds := by
  refine fun s => ⟨fun h heos => ?holds, fun h heos => ?ends, fun hph => ?frontEnd, fun hph => ?demod⟩
  case holds => rw [exec_coreStep, coreStepOp_of_starved h, starve, if_neg (ne_true_of_eq_false heos)]
  case ends =>
    rw [exec_coreStep, coreStepOp_of_starved h, starve, if_pos heos]
    rfl
  all_goals
    have hexec : exec .eosAction s = .next (endOfStream s.phase s) := rfl
    rw [hexec]
    rcases hph with hph | hph <;> rw [hph] <;> rfl

/-! ### Shared actions -/

/-- `lock` with an explicit header (48 R225). -/
theorem lockOn_of_explicit (c : Int) (f : Rat) (n : Nat) (x : Ext Rat) (a : Nat) {s : State} (himp : s.cfg.implicit = false) :
    lockOn c f n x a s = { lockRegs c f n x a s with hdrf := .reset, blklen := 8, phase := .hdrDemod } :=
  if_neg (ne_true_of_eq_false himp)

/-- `lock` with the implicit header, whose fields are those of CFG (48 R225, 44 R189). -/
theorem lockOn_of_implicit (c : Int) (f : Rat) (n : Nat) (x : Ext Rat) (a : Nat) {s : State} (himp : s.cfg.implicit = true)
    {len : BitVec 8} {cr : BitVec 3} (hlen : s.cfg.payloadLength = len.toNat) (hcr : s.cfg.cr = cr.toNat) :
    lockOn c f n x a s = setupPayload { lockRegs c f n x a s with hdrf := ⟨len, cr, s.cfg.hasCrc, true, true⟩ } := by
  have hhdrf : implicitHdrf s.cfg = ⟨len, cr, s.cfg.hasCrc, true, true⟩ := by
    rw [implicitHdrf, hlen, hcr, BitVec.ofNat_toNat, BitVec.ofNat_toNat, BitVec.setWidth_eq, BitVec.setWidth_eq]
  rw [← hhdrf]
  exact if_pos himp

/-- Settles O25: the two forms of `lock`, as a row and in INJECT_SEARCH. -/
theorem lockWritesSyncAndStartsFrame : Obligations.LockWritesSyncAndStartsFrame := by
  refine ⟨fun c f n x a s => ⟨fun himp => ?explicit, fun himp len cr hlen hcr => ?implicit⟩, fun s => ⟨rfl, fun hlt => ?locks,
    fun hle heos => ?holds, fun hle heos => ?ends⟩⟩
  case explicit =>
    rw [lockOn_of_explicit c f n x a himp]
    rfl
  case implicit =>
    rw [lockOn_of_implicit c f n x a himp hlen hcr, setupPayload_valid]
    rfl
  case locks => exact congrArg Host.Outcome.next (if_neg (Nat.not_le.mpr hlt))
  all_goals
    have hstarved : exec .injectSearch s = .next (starve .search s) := congrArg Host.Outcome.next (if_pos hle)
    rw [hstarved, starve_frontEnd (.inl rfl)]
  case holds => rw [if_neg (ne_true_of_eq_false heos)]
  case ends => rw [if_pos heos]

/-- Settles O26. -/
theorem payloadSetupSizesThePayload : Obligations.PayloadSetupSizesThePayload := by
  rintro s need rfl
  rfl

/-! ### Ends of an attempt -/

/-- `next_search` (48 R236): the run is over when a limit is reached. -/
theorem nextPhase_eq_done_iff (s : State) :
    nextPhase s = .done ↔ (s.cfg.frameLimit ≠ 0 ∧ s.frameCount ≥ s.cfg.frameLimit) ∨
      (s.cfg.attemptLimit ≠ 0 ∧ s.notfoundCount + s.abortCount ≥ s.cfg.attemptLimit) := by
  unfold nextPhase
  split
  next hframes => exact iff_of_true rfl (.inl hframes)
  next hframes =>
    split
    next hattempts => exact iff_of_true rfl (.inr hattempts)
    next hattempts => exact iff_of_false (by decide) (not_or.mpr ⟨hframes, hattempts⟩)

/-- Settles O27. -/
theorem failedAttemptsResumeSearch : Obligations.FailedAttemptsResumeSearch := by
  refine fun s => ⟨fun ph hdone hsearch => ?next, rfl, rfl⟩
  case next =>
    rw [← nextPhase_eq_done_iff] at hdone hsearch
    have hph : nextPhase s = ph := by
      rcases nextPhase_cases s with h | h
      · rw [hsearch (by rw [h]; decide), h]
      · rw [hdone h, h]
    exact ⟨hph, congrArg (fun p => Host.Outcome.next (returning (.phase p) s)) hph⟩

/-- Settles O45: the record is that of the registers; in a run the invariant of PHASE EMIT counts its symbols. -/
theorem emitPushesTheFrame : Obligations.EmitPushesTheFrame := by
  refine fun s => ⟨fun hfull => ?holds, fun hroom => ⟨currentFrame s, rfl, ?pushes, fun hinv hph nsym hnsym => ?symbols⟩⟩
  case holds => exact congrArg Host.Outcome.next (if_pos (decide_eq_true hfull))
  case pushes =>
    have hnot : ¬ fifoFull s = true := by simpa [fifoFull] using hroom
    exact congrArg Host.Outcome.next (if_neg hnot)
  case symbols =>
    obtain ⟨_, _, _, hgrid⟩ := hinv.of_framed (by rw [hph]; rfl)
    have hwf := hinv.phase
    simp only [PhaseWf, hph] at hwf
    obtain ⟨_, _, hall, _⟩ := hwf
    have hcount : s.diag.length = nsym := hall.trans hnsym.symm
    exact ⟨hcount, hcount ▸ hgrid⟩

end Sys2Proof.Machine
end

section
/-! PROOFS. The phase graph (48_host_commands_sequencer R228): where PHASE stands after each operation and after each host
transaction. -/

namespace Sys2Proof.Machine

/-! ### PHASE after a shared action -/

theorem starve_phase_cases (ph : Phase) (s : State) : (starve ph s).phase = s.phase ∨ (starve ph s).phase = .done := by
  rcases starve_cases ph s with h | ⟨_, _, h⟩ | ⟨_, _, h⟩ <;> rw [h]
  · exact .inl rfl
  · exact .inr rfl
  · exact .inr rfl

theorem setupPayload_phase_cases (s : State) : (setupPayload s).phase = .dewhiten ∨ (setupPayload s).phase = .payDemod := by
  rw [setupPayload_phase]
  split
  · exact .inl rfl
  · exact .inr rfl

/-- A lock starts the header, or the payload of an implicit one (48 R225, R226). -/
theorem lockOn_phase_cases (c : Int) (f : Rat) (n : Nat) (x : Ext Rat) (a : Nat) (s : State) :
    (lockOn c f n x a s).phase = .hdrDemod ∨ (lockOn c f n x a s).phase = .dewhiten ∨ (lockOn c f n x a s).phase = .payDemod := by
  rcases lockOn_cases c f n x a s with ⟨_, h⟩ | ⟨_, h⟩ <;> rw [h]
  · exact .inr (setupPayload_phase_cases _)
  · exact .inl rfl

section
variable {src : Phase}

theorem edge_starve {ph : Phase} {s : State} (hph : s.phase = src) (hstay : src.edge src = true) (hdone : src.edge .done = true) :
    src.edge (starve ph s).phase = true := by
  rcases starve_phase_cases ph s with h | h <;> rw [h]
  · exact hph.symm ▸ hstay
  · exact hdone

theorem edge_nextPhase (s : State) (hsearch : src.edge .search = true) (hdone : src.edge .done = true) :
    src.edge (nextPhase s) = true := by
  rcases nextPhase_cases s with h | h <;> rw [h]
  · exact hsearch
  · exact hdone

theorem edge_setupPayload (s : State) (hdewhiten : src.edge .dewhiten = true) (hpay : src.edge .payDemod = true) :
    src.edge (setupPayload s).phase = true := by
  rcases setupPayload_phase_cases s with h | h <;> rw [h]
  · exact hdewhiten
  · exact hpay

theorem edge_lockOn (c : Int) (f : Rat) (n : Nat) (x : Ext Rat) (a : Nat) (s : State) (hhdr : src.edge .hdrDemod = true)
    (hdewhiten : src.edge .dewhiten = true) (hpay : src.edge .payDemod = true) :
    src.edge (lockOn c f n x a s).phase = true := by
  rcases lockOn_phase_cases c f n x a s with h | h | h <;> rw [h]
  · exact hhdr
  · exact hdewhiten
  · exact hpay

end

/-! ### PHASE after an operation -/

theorem edge_injectSearchOp {s : State} (hph : s.phase = .search) : Phase.search.edge (injectSearchOp s).phase = true := by
  rcases injectSearchOp_cases s with ⟨_, h⟩ | ⟨_, h⟩ <;> rw [h]
  · exact edge_starve hph rfl rfl
  · exact edge_lockOn _ _ _ _ _ s rfl rfl rfl

/-- INJECT_SEARCH locks at once (48 R240). -/
theorem injectSearchOp_phase_ne_sync {s : State} (hph : s.phase = .search) : (injectSearchOp s).phase ≠ .sync := by
  rcases injectSearchOp_cases s with ⟨_, h⟩ | ⟨_, h⟩ <;> rw [h]
  · rcases starve_phase_cases .search s with h | h <;> simp [h, hph]
  · rcases lockOn_phase_cases 0 0 0 (.fin 0) s.p s with h | h | h <;> simp [h]

theorem edge_preambleSearchOp {s : State} (hph : s.phase = .search) : Phase.search.edge (preambleSearchOp s).phase = true := by
  rcases preambleSearchOp_cases s with ⟨_, h⟩ | ⟨_, h⟩ | ⟨_, _, _, _, h⟩ <;> rw [h]
  · exact edge_starve hph rfl rfl
  · exact edge_nextPhase _ rfl rfl
  · rfl

theorem edge_syncMatchOp {s : State} (hph : s.phase = .sync) : Phase.sync.edge (syncMatchOp s).phase = true := by
  rcases syncMatchOp_cases s with ⟨_, h⟩ | ⟨_, h⟩ | ⟨_, h⟩ | ⟨_, _, _, _, h⟩ <;> rw [h]
  · exact edge_starve hph rfl rfl
  · exact edge_nextPhase _ rfl rfl
  · exact edge_nextPhase _ rfl rfl
  · exact edge_lockOn _ _ _ _ _ s rfl rfl rfl

theorem edge_demodSymbolOp {ph full src : Phase} {s : State} (hph : s.phase = src) (hstay : src.edge src = true)
    (hfull : src.edge full = true) (hdone : src.edge .done = true) : src.edge (demodSymbolOp ph full s).phase = true := by
  rcases demodSymbolOp_cases ph full s with ⟨_, h⟩ | ⟨_, _, h⟩ <;> rw [h]
  · exact edge_starve hph hstay hdone
  · dsimp only
    split
    · exact hfull
    · exact hph.symm ▸ hstay

theorem edge_headerDecodeOp (s : State) : Phase.hdrDecode.edge (headerDecodeOp s).phase = true := by
  rcases headerDecodeOp_cases s with h | ⟨_, _, _, h⟩ | ⟨_, _, _, h⟩ | ⟨_, _, _, _, _, h⟩ <;> rw [h]
  · exact edge_nextPhase _ rfl rfl
  · exact edge_nextPhase _ rfl rfl
  · exact edge_nextPhase _ rfl rfl
  · exact edge_setupPayload _ rfl rfl

theorem edge_payloadBlockOp (s : State) : Phase.payDecode.edge (payloadBlockOp s).phase = true := by
  obtain ⟨_, _, _, _, h⟩ := payloadBlockOp_cases s
  rw [h]
  dsimp only
  split <;> rfl

theorem crcCheckOp_phase (s : State) : (crcCheckOp s).phase = .emit := by
  rcases crcCheckOp_cases s with ⟨_, h⟩ | ⟨_, _, _, _, _, h⟩ <;> rw [h]

theorem edge_emitFrameOp {s : State} (hph : s.phase = .emit) : Phase.emit.edge (emitFrameOp s).phase = true := by
  rcases emitFrameOp_cases s with ⟨_, h⟩ | ⟨_, h⟩ <;> rw [h]
  · rw [hph]
    rfl
  · exact edge_nextPhase _ rfl rfl

/-- A CORE step follows the graph. -/
theorem edge_coreStepOp (s : State) : s.phase.edge (coreStepOp s).phase = true := by
  cases hph : s.phase with
  | search =>
    cases hinj : s.cfg.inject with
    | true => exact coreStepOp_injectSearch hph hinj ▸ edge_injectSearchOp hph
    | false => exact coreStepOp_preambleSearch hph hinj ▸ edge_preambleSearchOp hph
  | sync => simpa only [coreStepOp, hph] using edge_syncMatchOp hph
  | hdrDemod | payDemod =>
    simp only [coreStepOp, hph]
    exact edge_demodSymbolOp hph rfl rfl rfl
  | hdrDecode => simpa only [coreStepOp, hph] using edge_headerDecodeOp s
  | payDecode => simpa only [coreStepOp, hph] using edge_payloadBlockOp s
  | dewhiten => simp only [coreStepOp, hph, dewhitenOp]; rfl
  | crc => simp only [coreStepOp, hph, crcCheckOp_phase]; rfl
  | emit => simpa only [coreStepOp, hph] using edge_emitFrameOp hph
  | idle | done => simp only [coreStepOp, hph]; rfl

/-! ### PHASE after a host transaction -/

theorem idle_or_done_of_not_running {s : State} (h : running s = false) : s.phase = .idle ∨ s.phase = .done := by
  simpa [running_eq, or_iff_not_imp_left] using h

/-- PHASE is left alone but for an accepted START and for RESET. -/
theorem HostEffect.phase {s t : State} (e : HostEffect s t) :
    t.phase = s.phase ∨ ((s.phase = .idle ∨ s.phase = .done) ∧ configOk s.csr = true ∧ t.phase = .search) ∨ ResetValues t := by
  cases e with
  | start hidle hok => exact .inr (.inl ⟨idle_or_done_of_not_running hidle, hok, rfl⟩)
  | reset => exact .inr (.inr (resetOp_resetValues s))
  | _ => exact .inl rfl

/-- What a move of an agent other than the CORE step does is a host transaction's effect. -/
theorem hostEffect_of_exec {i : Instr} {s t : State} (hmove : i.isAgentMove = true) (hcore : i ≠ .coreStep)
    (hexec : exec i s = .next t) : HostEffect s t := by
  rcases exec_agentMove hmove s with ⟨h, _⟩ | ⟨u, hu, e⟩
  · exact absurd h hcore
  · obtain rfl := Host.Outcome.next.inj (hu.symm.trans hexec)
    exact e

/-- Settles O28. -/
theorem phasesFollowTheGraph : Obligations.PhasesFollowTheGraph := by
  refine ⟨fun s t hstep => ?core, fun i s t hmove hcore hexec => (hostEffect_of_exec hmove hcore hexec).phase⟩
  case core =>
    obtain rfl : coreStepOp s = t := Host.Outcome.next.inj hstep
    refine ⟨edge_coreStepOp s, fun hsearch hsync => Bool.eq_false_iff.mpr fun hinj => ?_⟩
    rw [coreStepOp_injectSearch hsearch hinj] at hsync
    exact injectSearchOp_phase_ne_sync hsearch hsync

end Sys2Proof.Machine
end

section
/-! PROOFS. The cursor and the end of a run (10_state R47, 48_host_commands_sequencer R238): what one CORE step does to the attempt in
progress, and a measure of what is left to do that each step of a run decreases once EOS = 1. -/

namespace Sys2Proof.Machine

/-! ### What PHASE SEARCH and SYNC must be able to read -/

/-- In a run the search has a candidate (48 R220). -/
theorem RunInv.nPre_le_searchWin {s : State} (h : RunInv s) : s.cfg.nPre ≤ s.cfg.searchWin := by
  obtain ⟨c, hok, hcfg⟩ := h.cfg
  obtain ⟨_, _, _, _, _, _, hwin, _⟩ := (configOk_iff c).mp hok
  exact hcfg ▸ hwin

/-- A search that is not starved read the window at `P`, the first of its first candidate (41 R121). -/
theorem lt_avail_of_searchResult {s : State} (h : RunInv s) {r : Option (Found Rat)} (hr : searchResult s = some r) :
    s.p < s.avail := by
  by_contra hle
  have hpos := h.cfgValid.ns_pos
  have hpre := h.cfgValid.nPre_ge
  obtain ⟨n, hn⟩ : ∃ n, s.cfg.searchWin + 1 - s.cfg.nPre = n + 1 :=
    ⟨s.cfg.searchWin - s.cfg.nPre, Nat.succ_sub h.nPre_le_searchWin⟩
  have hfirst : examine machineArith s.cfg (window s s.cfg.ns) (s.p + 0 * s.cfg.ns) = none :=
    examine_starved machineArith (w := 0) (by omega) (by omega)
  rw [searchResult, searchAttempt, hn, List.range_succ_eq_map, searchFrom, hfirst] at hr
  cases hr

/-- A down-chirp search that is not starved read its first window (41 R129). -/
theorem le_avail_of_findDownchirp {s : State} {q2 : Int} {cf : Rat} {r : Option Nat}
    (hr : findDownchirp machineArith s.cfg (window s s.cfg.ns) q2 cf = some r) :
    (q2 + ((s.cfg.nPre - 2) * s.cfg.ns : Nat)).toNat + s.cfg.ns ≤ s.avail := by
  by_contra hgt
  have hnone := specAt_of_lt machineArith (Nat.lt_of_not_le hgt) false cf
  rw [findDownchirp, List.range_succ_eq_map, List.map_cons, findDownIn, Nat.add_zero, hnone] at hr
  cases hr

/-- So a sync match that is not starved has samples at the cursor: its first window is two symbols behind the candidate. -/
theorem lt_avail_of_syncResult {s : State} (h : CoreInv s) (hph : s.phase = .sync) {r : SyncResult} (hr : syncResult s = some r) :
    s.p < s.avail := by
  have hcfg := (h.run (by simp [running, hph])).cfgValid
  have hcand := h.phase
  simp only [PhaseWf, hph] at hcand
  obtain ⟨hcursor, _⟩ := hcand
  obtain ⟨d, hd⟩ : ∃ d, findDownchirp machineArith s.cfg (window s s.cfg.ns) s.cand.q2 s.cand.cfoFrac = some d := by
    rw [syncResult, syncAttempt] at hr
    split at hr
    · cases hr
    · exact ⟨_, ‹_›⟩
    · exact ⟨_, ‹_›⟩
  have hread := le_avail_of_findDownchirp hd
  have hwindow : 2 * s.cfg.ns ≤ (s.cfg.nPre - 2) * s.cfg.ns := Nat.mul_le_mul_right _ (by have := hcfg.nPre_ge; omega)
  have hos := hcfg.os_le_ns
  have hpos := hcfg.ns_pos
  omega

/-! ### What a CORE step does to the attempt -/

/-- Nothing is left for the CORE: the run is over, or EMIT waits for a POP. -/
def Rests (s : State) : Prop := s.phase = .done ∨ s.phase = .idle ∨ (s.phase = .emit ∧ s.inst.fifoDepth ≤ s.fifo.length)

/-- The attempt in progress has not ended: the cursor and the counters stay. -/
structure AttemptKept (s t : State) : Prop where
  p : t.p = s.p
  eos : t.eos = s.eos
  counters : t.frameCount = s.frameCount ∧ t.notfoundCount = s.notfoundCount ∧ t.abortCount = s.abortCount

/-- Between frames there are samples at the cursor. -/
def ReadsAtCursor (s : State) : Prop := s.phase.framed = false → s.p < s.avail

/-- The steps to the end of the attempt, at most: symbols that can still be demodulated, each with its decoding, and the phases in
their order. -/
def stepsLeft (s : State) : Nat :=
  match s.phase with
  | .search => 2 * s.avail + 6
  | .sync => 2 * s.avail + 5
  | .hdrDecode | .payDecode => 2 * (s.avail - s.sympos) + 4
  | .hdrDemod | .payDemod => 2 * (s.avail - s.sympos) + 3
  | .dewhiten => 2
  | .crc => 1
  | .idle | .emit | .done => 0

/-- Everything that one CORE step of a run can do to the attempt in progress (48 R228, R238). -/
inductive AttemptStep (s t : State) : Prop where
  | held (same : t = s) (why : s.eos = false ∨ Rests s)
  | stopped (kept : AttemptKept s t) (finished : t.phase = .done)
  | ended (advanced : s.p < t.p) (eos : t.eos = s.eos) (next : t.phase = .search ∨ t.phase = .done) (read : ReadsAtCursor s)
  | continued (kept : AttemptKept s t) (read : ReadsAtCursor s) (nearer : stepsLeft t < stepsLeft s)

theorem AttemptKept.refl (s : State) : AttemptKept s s := ⟨rfl, rfl, rfl, rfl, rfl⟩

theorem readsAtCursor_of_framed {s : State} (h : s.phase.framed = true) : ReadsAtCursor s :=
  fun hno => absurd (h.symm.trans hno) (by decide)

/-- In a frame no more is left than its symbols and their decoding. -/
theorem stepsLeft_le_of_framed {s : State} (h : s.phase.framed = true) : stepsLeft s ≤ 2 * (s.avail - s.sympos) + 4 := by
  unfold stepsLeft
  cases hph : s.phase with
  | idle | search | sync | done => rw [hph] at h; cases h
  | _ => dsimp only; omega

theorem starve_attempt {ph : Phase} (hph : ph = .search ∨ ph = .sync ∨ ph = .hdrDemod ∨ ph = .payDemod) (s : State) :
    AttemptStep s (starve ph s) := by
  cases heos : s.eos with
  | false => exact .held (if_neg (ne_true_of_eq_false heos)) (.inl heos)
  | true =>
    rw [starve, if_pos heos]
    rcases hph with rfl | rfl | rfl | rfl <;> exact .stopped ⟨rfl, rfl, rfl, rfl, rfl⟩ rfl

/-- `sync_fail` skips one symbol (41 R135). -/
theorem syncFailed_attempt {s : State} (h : RunInv s) (hread : ReadsAtCursor s) (k : ErrKind) :
    AttemptStep s (syncFailed (raise k s)) :=
  .ended (Nat.lt_add_of_pos_right h.cfgValid.ns_pos) rfl (nextPhase_cases _) hread

theorem lockOn_attempt {s : State} (hph : s.phase = .search ∨ s.phase = .sync) (hread : s.p < s.avail) (c : Int) (f : Rat) (n : Nat)
    (x : Ext Rat) (a : Nat) : AttemptStep s (lockOn c f n x a s) := by
  have hkept : AttemptKept s (lockOn c f n x a s) := by
    rcases lockOn_cases c f n x a s with ⟨_, h⟩ | ⟨_, h⟩ <;> rw [h] <;> exact ⟨rfl, rfl, rfl, rfl, rfl⟩
  have hframed : (lockOn c f n x a s).phase.framed = true := by
    rcases lockOn_phase_cases c f n x a s with h | h | h <;> rw [h] <;> rfl
  have hleft := stepsLeft_le_of_framed hframed
  rw [(lockOn_store c f n x a s).2] at hleft
  have hbefore : 2 * s.avail + 5 ≤ stepsLeft s := by
    unfold stepsLeft
    rcases hph with hph | hph <;> rw [hph]
    · exact Nat.le_succ _
  exact .continued hkept (fun _ => hread) (by omega)

theorem injectSearchOp_attempt {s : State} (hph : s.phase = .search) : AttemptStep s (injectSearchOp s) := by
  rcases injectSearchOp_cases s with ⟨_, h⟩ | ⟨hlt, h⟩ <;> rw [h]
  · exact starve_attempt (.inl rfl) s
  · exact lockOn_attempt (.inl hph) hlt _ _ _ _ _

theorem preambleSearchOp_attempt {s : State} (h : RunInv s) (hph : s.phase = .search) : AttemptStep s (preambleSearchOp s) := by
  rcases preambleSearchOp_cases s with ⟨_, hs⟩ | ⟨hr, hs⟩ | ⟨q, cf, snr, hr, hs⟩ <;> rw [hs]
  · exact starve_attempt (.inl rfl) s
  · exact syncFailed_attempt h (fun _ => lt_avail_of_searchResult h hr) _
  · refine .continued ⟨rfl, rfl, rfl, rfl, rfl⟩ (fun _ => lt_avail_of_searchResult h hr) ?_
    simp only [stepsLeft, hph]
    omega

theorem syncMatchOp_attempt {s : State} (h : CoreInv s) (hph : s.phase = .sync) : AttemptStep s (syncMatchOp s) := by
  have hrun := h.run (by simp [running, hph])
  rcases syncMatchOp_cases s with ⟨_, hs⟩ | ⟨hr, hs⟩ | ⟨hr, hs⟩ | ⟨_, _, _, hr, hs⟩ <;> rw [hs]
  · exact starve_attempt (.inr (.inl rfl)) s
  · exact syncFailed_attempt hrun (fun _ => lt_avail_of_syncResult h hph hr) _
  · exact syncFailed_attempt hrun (fun _ => lt_avail_of_syncResult h hph hr) _
  · exact lockOn_attempt (.inr hph) (lt_avail_of_syncResult h hph hr) _ _ _ _ _

/-- A demodulation consumes one window below AVAIL (42 R150). -/
theorem demodSymbolOp_attempt {ph full : Phase} {s : State} (h : RunInv s) (hdemod : ph = .hdrDemod ∨ ph = .payDemod)
    (hph : s.phase = ph) (hfull : full.framed = true) : AttemptStep s (demodSymbolOp ph full s) := by
  have hframed : s.phase.framed = true := by rcases hdemod with rfl | rfl <;> rw [hph] <;> rfl
  have hleft : stepsLeft s = 2 * (s.avail - s.sympos) + 3 := by rcases hdemod with rfl | rfl <;> rw [stepsLeft, hph]
  rcases demodSymbolOp_cases ph full s with ⟨_, hs⟩ | ⟨win, hwin, hs⟩
  · rw [hs]
    exact starve_attempt (.inr (.inr hdemod)) s
  · have hnext : (demodSymbolOp ph full s).phase.framed = true := by
      rw [hs]
      dsimp only
      split
      · exact hfull
      · exact hframed
    have hbound := stepsLeft_le_of_framed hnext
    rw [hs] at hbound ⊢
    have hread := (window_eq_some hwin).1
    have hpos := h.cfgValid.wlen_pos
    exact .continued ⟨rfl, rfl, rfl, rfl, rfl⟩ (readsAtCursor_of_framed hframed) (by dsimp only at hbound; omega)

theorem stepsLeft_setupPayload_le (s : State) : stepsLeft (setupPayload s) ≤ 2 * (s.avail - s.sympos) + 3 := by
  rcases setupPayload_phase_cases s with h | h <;> simp only [stepsLeft, h, setupPayload_avail, setupPayload_sympos] <;> omega

theorem headerDecodeOp_attempt {s : State} (h : CoreInv s) (hph : s.phase = .hdrDecode) : AttemptStep s (headerDecodeOp s) := by
  have hread : ReadsAtCursor s := readsAtCursor_of_framed (by rw [hph]; rfl)
  have hwf := h.phase
  simp only [PhaseWf, hph] at hwf
  obtain ⟨_, _, _, _, hbehind⟩ := hwf
  rcases headerDecodeOp_cases s with hs | ⟨_, _, _, hs⟩ | ⟨_, _, _, hs⟩ | ⟨len, cr, crc, _, _, hs⟩ <;> rw [hs]
  · exact .ended hbehind rfl (nextPhase_cases _) hread
  · exact .ended hbehind rfl (nextPhase_cases _) hread
  · exact .ended hbehind rfl (nextPhase_cases _) hread
  · refine .continued ⟨rfl, rfl, rfl, rfl, rfl⟩ hread ((stepsLeft_setupPayload_le _).trans_lt ?_)
    simp only [stepsLeft, hph]
    omega

theorem payloadBlockOp_attempt {s : State} (hph : s.phase = .payDecode) : AttemptStep s (payloadBlockOp s) := by
  obtain ⟨t, r, ht, _, hs⟩ := payloadBlockOp_cases s
  have hkept : AttemptKept s (payloadBlockOp s) := by rw [hs]; rcases ht with rfl | rfl <;> exact ⟨rfl, rfl, rfl, rfl, rfl⟩
  have hroom : (payloadBlockOp s).sympos = s.sympos := by rw [hs]; rcases ht with rfl | rfl <;> rfl
  have hphase : (payloadBlockOp s).phase = .payDemod ∨ (payloadBlockOp s).phase = .dewhiten := by
    rw [hs]
    dsimp only
    split
    · exact .inl rfl
    · exact .inr rfl
  refine .continued hkept (readsAtCursor_of_framed (by rw [hph]; rfl)) ?_
  rcases hphase with hnext | hnext <;> simp only [stepsLeft, hph, hnext, hroom, (payloadBlockOp_store s).2] <;> omega

theorem dewhitenOp_attempt {s : State} (hph : s.phase = .dewhiten) : AttemptStep s (dewhitenOp s) :=
  .continued ⟨rfl, rfl, rfl, rfl, rfl⟩ (readsAtCursor_of_framed (by rw [hph]; rfl)) (by simp [stepsLeft, dewhitenOp, hph])

theorem crcCheckOp_attempt {s : State} (hph : s.phase = .crc) : AttemptStep s (crcCheckOp s) := by
  have hkept : AttemptKept s (crcCheckOp s) := by
    rcases crcCheckOp_cases s with ⟨_, hs⟩ | ⟨_, _, t, _, rfl | rfl, hs⟩ <;> rw [hs] <;> exact ⟨rfl, rfl, rfl, rfl, rfl⟩
  exact .continued hkept (readsAtCursor_of_framed (by rw [hph]; rfl)) (by simp [stepsLeft, crcCheckOp_phase, hph])

theorem emitFrameOp_attempt {s : State} (h : CoreInv s) (hph : s.phase = .emit) : AttemptStep s (emitFrameOp s) := by
  have hwf := h.phase
  simp only [PhaseWf, hph] at hwf
  obtain ⟨_, _, _, hbehind, _⟩ := hwf
  rcases emitFrameOp_cases s with ⟨hfull, hs⟩ | ⟨_, hs⟩ <;> rw [hs]
  · exact .held rfl (.inr (.inr (.inr ⟨hph, hfull⟩)))
  · exact .ended hbehind rfl (nextPhase_cases _) (readsAtCursor_of_framed (by rw [hph]; rfl))

theorem coreStepOp_attempt {s : State} (h : CoreInv s) : AttemptStep s (coreStepOp s) := by
  cases hph : s.phase with
  | search =>
    cases hinj : s.cfg.inject with
    | true => exact coreStepOp_injectSearch hph hinj ▸ injectSearchOp_attempt hph
    | false => exact coreStepOp_preambleSearch hph hinj ▸ preambleSearchOp_attempt (h.run (by simp [running, hph])) hph
  | sync => simpa only [coreStepOp, hph] using syncMatchOp_attempt h hph
  | hdrDemod =>
    have hrun := h.run (by simp [running, hph])
    simpa only [coreStepOp, hph] using demodSymbolOp_attempt hrun (.inl rfl) hph rfl
  | payDemod =>
    have hrun := h.run (by simp [running, hph])
    simpa only [coreStepOp, hph] using demodSymbolOp_attempt hrun (.inr rfl) hph rfl
  | hdrDecode => simpa only [coreStepOp, hph] using headerDecodeOp_attempt h hph
  | payDecode => simpa only [coreStepOp, hph] using payloadBlockOp_attempt hph
  | dewhiten => simpa only [coreStepOp, hph] using dewhitenOp_attempt hph
  | crc => simpa only [coreStepOp, hph] using crcCheckOp_attempt hph
  | emit => simpa only [coreStepOp, hph] using emitFrameOp_attempt h hph
  | idle => exact .held (by simp only [coreStepOp, hph]) (.inr (.inr (.inl hph)))
  | done => exact .held (by simp only [coreStepOp, hph]) (.inr (.inl hph))

/-! ### The cursor -/

/-- A host transaction leaves the cursor alone, or empties the store with it (48 R221, 70 R280). -/
theorem HostEffect.cursor {s t : State} (e : HostEffect s t) : t.p = s.p ∨ (t.p = 0 ∧ t.avail = 0 ∧ t.store = []) := by
  cases e with
  | start | reset => exact .inr ⟨rfl, rfl, rfl⟩
  | _ => exact .inl rfl

/-- Settles O30: a step that does not end the attempt keeps the counters. -/
theorem everyAttemptAdvances : Obligations.EveryAttemptAdvances := by
  refine ⟨fun s t hinv hstep => ?core, fun i s t hmove hcore hexec => (hostEffect_of_exec hmove hcore hexec).cursor⟩
  case core =>
    obtain rfl : coreStepOp s = t := Host.Outcome.next.inj hstep
    have hadvance : s.p ≤ (coreStepOp s).p ∧ (s.p < (coreStepOp s).p ∨ AttemptKept s (coreStepOp s)) := by
      cases coreStepOp_attempt hinv with
      | held same =>
        rw [same]
        exact ⟨le_rfl, .inr (.refl s)⟩
      | stopped kept => exact ⟨kept.p.ge, .inr kept⟩
      | ended advanced => exact ⟨advanced.le, .inl advanced⟩
      | continued kept => exact ⟨kept.p.ge, .inr kept⟩
    obtain ⟨hle, hcases⟩ := hadvance
    refine ⟨hle, (coreStepOp_store s).2, fun hcount => hcases.resolve_right fun hkept => hcount ?_⟩
    obtain ⟨hframes, hnotfound, haborts⟩ := hkept.counters
    rw [hframes, hnotfound, haborts]

/-! ### The end of a run -/

/-- The attempts that can still be made, at most: one for each entry from the cursor on, and one with none left that only ends the
run. -/
def attemptsLeft (s : State) : Nat :=
  match s.phase with
  | .idle | .done => 0
  | .search | .sync => if s.p < s.avail then s.avail - s.p + 2 else 1
  | _ => s.avail - s.p + 2

theorem attemptsLeft_le (s : State) : attemptsLeft s ≤ s.avail - s.p + 2 := by
  unfold attemptsLeft
  split
  · omega
  · omega
  · split <;> omega
  · split <;> omega
  · omega

theorem attemptsLeft_eq {s : State} (hrest : ¬ Rests s) (hread : ReadsAtCursor s) : attemptsLeft s = s.avail - s.p + 2 := by
  unfold attemptsLeft
  cases hph : s.phase with
  | idle => exact absurd (.inr (.inl hph)) hrest
  | done => exact absurd (.inl hph) hrest
  | search | sync => exact if_pos (hread (by rw [hph]; rfl))
  | _ => rfl

theorem attemptsLeft_pos {s : State} (hrest : ¬ Rests s) : 0 < attemptsLeft s := by
  unfold attemptsLeft
  cases hph : s.phase with
  | idle => exact absurd (.inr (.inl hph)) hrest
  | done => exact absurd (.inl hph) hrest
  | search | sync => dsimp only; split <;> omega
  | _ => exact Nat.succ_pos _

theorem attemptsLeft_of_done {s : State} (h : s.phase = .done) : attemptsLeft s = 0 := by rw [attemptsLeft, h]

theorem attemptsLeft_search_lt {s t : State} (hph : t.phase = .search) (havail : t.avail = s.avail) (hp : s.p < t.p) :
    attemptsLeft t < s.avail - s.p + 2 := by
  rw [attemptsLeft, hph]
  dsimp only
  split <;> omega

/-- Once EOS = 1 a CORE step that is not at rest leaves fewer attempts, or fewer steps of this one. -/
theorem AttemptStep.decreases {s t : State} (h : AttemptStep s t) (havail : t.avail = s.avail) (heos : s.eos = true)
    (hrest : ¬ Rests s) : Prod.Lex (· < ·) (· < ·) (attemptsLeft t, stepsLeft t) (attemptsLeft s, stepsLeft s) := by
  have hdone : t.phase = .done → attemptsLeft t < attemptsLeft s := fun hph => by
    rw [attemptsLeft_of_done hph]
    exact attemptsLeft_pos hrest
  cases h with
  | held _ why => exact absurd (why.resolve_left (by simp [heos])) hrest
  | stopped _ finished => exact .left _ _ (hdone finished)
  | ended advanced _ next read =>
    rcases next with hph | hph
    · exact .left _ _ (attemptsLeft_eq hrest read ▸ attemptsLeft_search_lt hph havail advanced)
    · exact .left _ _ (hdone hph)
  | continued kept read nearer =>
    have hle : attemptsLeft t ≤ attemptsLeft s := by
      rw [attemptsLeft_eq hrest read, ← havail, ← kept.p]
      exact attemptsLeft_le t
    rcases hle.lt_or_eq with hlt | heq
    · exact .left _ _ hlt
    · exact heq ▸ .right _ nearer

theorem AttemptStep.eos {s t : State} (h : AttemptStep s t) : t.eos = s.eos := by
  cases h with
  | held same => rw [same]
  | stopped kept => exact kept.eos
  | ended _ heos => exact heos
  | continued kept => exact kept.eos

/-- The CORE comes to rest, by the measure of `AttemptStep.decreases`. -/
theorem exists_coreSteps_rests (s : State) (h : CoreInv s) (heos : s.eos = true) : ∃ k, Rests (coreSteps k s) := by
  by_cases hrest : Rests s
  · exact ⟨0, hrest⟩
  · obtain ⟨k, hk⟩ := exists_coreSteps_rests (coreStepOp s) (coreStepOp_coreInv h) ((coreStepOp_attempt h).eos.trans heos)
    exact ⟨k + 1, hk⟩
termination_by (attemptsLeft s, stepsLeft s)
decreasing_by exact (coreStepOp_attempt h).decreases (coreStepOp_store s).2 heos hrest

/-- Settles O31. -/
theorem runEndsAfterEos : Obligations.RunEndsAfterEos := exists_coreSteps_rests

end Sys2Proof.Machine
end
